-- ==== Sys2Proof/Word.lean ====
section
/-! DEFINITION. The widths of the block's quantities (spec 00 rule R9: every value is unsigned, bit 0 is the least
significant). A line level is a Bool, true for 1. -/

namespace Sys2Proof

/-- The level of a line, or a one-bit register: true for 1. -/
abbrev Level := Bool

/-- A digit index, 0..7 (rule R11). -/
abbrev Digit := BitVec 3

/-- A character code as the `char_code` port carries it, format CODE6 (rule R51). -/
abbrev Code := BitVec 6

abbrev Byte := BitVec 8

/-- The 14 significant bits of a segment mask (rule R58). -/
abbrev Mask := BitVec 14

/-- A 48-bit register of the shift chain (bit s is stage s, rule R22) or a frame (bit k is stream position k, rule R36). -/
abbrev Chain := BitVec 48

end Sys2Proof
end

