-- ==== Sys2Proof/Config.lean ====
section
/-! DEFINITION. The block's parameters (spec 00 rule R3), each under the spec's name with this hardware's value, and the
free values: constants without a body, of which no proof can know anything but the type. -/

namespace Sys2Proof

/-- `BTN_MODE` (rules R3, R120): how a pressed sample is accumulated. -/
inductive BtnMode where
  /-- `COUNT`, the reference behaviour and this hardware's value. -/
  | count
  /-- `BITMASK`, the alternative of rule R122. -/
  | bitmask
  deriving DecidableEq, Repr

namespace Config

/-- `N_CODES`: legal character codes are 0..39. -/
@[simp] abbrev nCodes : Nat := 40

/-- `N_DIGITS`. -/
@[simp] abbrev nDigits : Nat := 8

/-- `N_SEL_BYTES`: character-select bytes per frame. -/
@[simp] abbrev nSelBytes : Nat := 5

/-- `N_FRAME_BYTES`: bytes shifted per step. -/
@[simp] abbrev nFrameBytes : Nat := 6

/-- `TICK_THRESHOLD`: `tick_int` resets when it exceeds this. -/
@[simp] abbrev tickThreshold : BitVec 16 := 49

/-- `REF_CODE`: the code the reference content source offers for every digit (rule R104). -/
@[simp] abbrev refCode : Code := 39

/-- `BLANK_CODE`: the code of space, to which a reserved code is clamped (rule R53). -/
@[simp] abbrev blankCode : Code := 10

/-- The value of `BTN_MODE` for this hardware. -/
@[simp] abbrev btnMode : BtnMode := .count

/-- `FONT` (rule R4): the 40 segment masks, an OPEN parameter of the spec.
Its domain is exactly 0..39, each value has 14 bits, it is constant; nothing else is known of it. -/
opaque font : Fin 40 → Mask

/-- FREE VALUE (rules R71, R75; 93 U3): what the ROM shows when its ROW lines are not one-hot, in each cycle at each draw. -/
opaque romFloating : Nat → Nat → Mask

/-- FREE VALUE (rules R25, R147; 93 U4): the shift stages at power-on. -/
opaque powerOnShift : Chain

/-- FREE VALUE (rules R25, R147; 93 U4): the output stages at power-on. -/
opaque powerOnOut : Chain

/-- FREE INPUT (rule R27): the level of `rst` in each cycle that the script does not give. -/
opaque freeRst : Nat → Level

/-- FREE INPUT (rules R27, R154): the `tick` input in each cycle that the script does not give. -/
opaque freeTick : Nat → Level

/-- FREE INPUT (rules R27, R91): the code on `char_code` in each cycle that the script does not give. -/
opaque freeCode : Nat → Code

/-- FREE INPUT (rules R27, R120; 93 U8): the level of `btn_n` in each cycle that the script does not give. -/
opaque freeBtn : Nat → Level

end Config

end Sys2Proof
end

