-- ==== Sys2Proof/Syntax.lean ====
section
/-! DEFINITION. The operations of the block: one constructor for each row of the spec's opcode table. The block has no
instruction words (spec 30 rule R61); a row is an operation, a character code, a frame byte or a data format. -/

namespace Sys2Proof

/-- One constructor per row of the opcode table, in the table's order. -/
inductive Instr where
  /-- `SCAN_STEP`, rule R90; the whole step for the code `cIn` on `char_code` and the level `b` of `btn_n`. -/
  | scanStep (cIn : Code) (b : Level)
  /-- `ACCEPT`, rule R157; entry to a step, with the code on `char_code`. -/
  | accept
  /-- `IDLE_WAIT`, rule R98, phase IDLE without a pending tick. -/
  | idleWait
  /-- `TICK_COUNT`, rule R130. -/
  | tickCount
  /-- `CLAMP`, rule R92. -/
  | clamp (cIn : Code)
  /-- `FONT_LOOKUP`, rule R70; a pure function. -/
  | fontLookup (c : Code)
  /-- `CHAR_SELECT`, rule R54; select byte `i` of the legal code `c`, a pure function. -/
  | charSelect (i : BitVec 3) (c : Code)
  /-- `DIGIT_SELECT`, rules R55, R110; a pure function. -/
  | digitSelect (d : Digit)
  /-- `LOAD`, rule R99. -/
  | load
  /-- `SHIFT_OUT_BYTE`, rule R80. -/
  | shiftOutByte (v : Byte)
  /-- `SET_DATA`, rule R81. -/
  | setData
  /-- `CLK_RISE`, rule R82. -/
  | clkRise
  /-- `HOLD`, rule R83. -/
  | hold
  /-- `CLK_FALL`, rule R84. -/
  | clkFall
  /-- `LATCH_PULSE`, rule R94. -/
  | latchPulse
  /-- `LATCH_RISE`, rule R94, phase LAT_HI. -/
  | latchRise
  /-- `LATCH_FALL`, rule R94, phase LAT_LO. -/
  | latchFall
  /-- `BTN_SAMPLE`, rule R120, with the level on `btn_n`. -/
  | btnSample
  /-- `ACC_COUNT`, rule R121. -/
  | accCount
  /-- `ACC_BITMASK`, rule R122. -/
  | accBitmask (d : Digit)
  /-- `ADVANCE`, rule R96. -/
  | advance
  /-- `PUBLISH`, rule R123. -/
  | publish
  /-- `SR_SHIFT`, rule R141. -/
  | srShift
  /-- `SR_LATCH`, rule R142. -/
  | srLatch
  /-- `ROM_READ`, rule R71. -/
  | romRead
  /-- `DIGIT_DRIVE`, rule R112. -/
  | digitDrive
  /-- `READ_PATTERN`, rule R44. -/
  | readPattern
  /-- `READ_TICK`, rule R44. -/
  | readTick
  /-- `RESET`, rule R170. -/
  | reset
  /-- `CH_0`, rule R52, code 0, the character `0`. -/
  | ch0
  /-- `CH_1`, rule R52, code 1, the character `1`. -/
  | ch1
  /-- `CH_2`, rule R52, code 2, the character `2`. -/
  | ch2
  /-- `CH_3`, rule R52, code 3, the character `3`. -/
  | ch3
  /-- `CH_4`, rule R52, code 4, the character `4`. -/
  | ch4
  /-- `CH_5`, rule R52, code 5, the character `5`. -/
  | ch5
  /-- `CH_6`, rule R52, code 6, the character `6`. -/
  | ch6
  /-- `CH_7`, rule R52, code 7, the character `7`. -/
  | ch7
  /-- `CH_8`, rule R52, code 8, the character `8`. -/
  | ch8
  /-- `CH_9`, rule R52, code 9, the character `9`. -/
  | ch9
  /-- `CH_SPACE`, rule R52, code 10, the character space. -/
  | chSpace
  /-- `CH_A`, rule R52, code 11, the character `A`. -/
  | chA
  /-- `CH_B`, rule R52, code 12, the character `B`. -/
  | chB
  /-- `CH_C`, rule R52, code 13, the character `C`. -/
  | chC
  /-- `CH_D`, rule R52, code 14, the character `D`. -/
  | chD
  /-- `CH_E`, rule R52, code 15, the character `E`. -/
  | chE
  /-- `CH_F`, rule R52, code 16, the character `F`. -/
  | chF
  /-- `CH_G`, rule R52, code 17, the character `G`. -/
  | chG
  /-- `CH_H`, rule R52, code 18, the character `H`. -/
  | chH
  /-- `CH_I`, rule R52, code 19, the character `I`. -/
  | chI
  /-- `CH_J`, rule R52, code 20, the character `J`. -/
  | chJ
  /-- `CH_K`, rule R52, code 21, the character `K`. -/
  | chK
  /-- `CH_L`, rule R52, code 22, the character `L`. -/
  | chL
  /-- `CH_M`, rule R52, code 23, the character `M`. -/
  | chM
  /-- `CH_N`, rule R52, code 24, the character `N`. -/
  | chN
  /-- `CH_O`, rule R52, code 25, the character `O`. -/
  | chO
  /-- `CH_P`, rule R52, code 26, the character `P`. -/
  | chP
  /-- `CH_Q`, rule R52, code 27, the character `Q`. -/
  | chQ
  /-- `CH_R`, rule R52, code 28, the character `R`. -/
  | chR
  /-- `CH_S`, rule R52, code 29, the character `S`. -/
  | chS
  /-- `CH_T`, rule R52, code 30, the character `T`. -/
  | chT
  /-- `CH_U`, rule R52, code 31, the character `U`. -/
  | chU
  /-- `CH_V`, rule R52, code 32, the character `V`. -/
  | chV
  /-- `CH_W`, rule R52, code 33, the character `W`. -/
  | chW
  /-- `CH_X`, rule R52, code 34, the character `X`. -/
  | chX
  /-- `CH_Y`, rule R52, code 35, the character `Y`. -/
  | chY
  /-- `CH_Z`, rule R52, code 36, the character `Z`. -/
  | chZ
  /-- `CH_MINUS`, rule R52, code 37, the character `-`. -/
  | chMinus
  /-- `CH_PLUS`, rule R52, code 38, the character `+`. -/
  | chPlus
  /-- `CH_EQUALS`, rule R52, code 39, the character `=`. -/
  | chEquals
  /-- `RESERVED_40_47`, rule R53, code `101xxx`. -/
  | reserved40to47 (x : BitVec 3)
  /-- `RESERVED_48_63`, rule R53, code `11xxxx`. -/
  | reserved48to63 (x : BitVec 4)
  /-- `FRAME_B0`, rule R56, byte 0 of the frame. -/
  | frameB0
  /-- `FRAME_B1`, rule R56, byte 1 of the frame. -/
  | frameB1
  /-- `FRAME_B2`, rule R56, byte 2 of the frame. -/
  | frameB2
  /-- `FRAME_B3`, rule R56, byte 3 of the frame. -/
  | frameB3
  /-- `FRAME_B4`, rule R56, byte 4 of the frame. -/
  | frameB4
  /-- `FRAME_B5`, rule R56, byte 5 of the frame. -/
  | frameB5
  /-- `DIGSEL_0`, rule R111, the digit-select byte of digit 0. -/
  | digsel0
  /-- `DIGSEL_1`, rule R111, the digit-select byte of digit 1. -/
  | digsel1
  /-- `DIGSEL_2`, rule R111, the digit-select byte of digit 2. -/
  | digsel2
  /-- `DIGSEL_3`, rule R111, the digit-select byte of digit 3. -/
  | digsel3
  /-- `DIGSEL_4`, rule R111, the digit-select byte of digit 4. -/
  | digsel4
  /-- `DIGSEL_5`, rule R111, the digit-select byte of digit 5. -/
  | digsel5
  /-- `DIGSEL_6`, rule R111, the digit-select byte of digit 6. -/
  | digsel6
  /-- `DIGSEL_7`, rule R111, the digit-select byte of digit 7. -/
  | digsel7
  /-- `SELBYTE_GROUP_0`, rule R54, a code of group 0 with its set bit at `bit`. -/
  | selbyteGroup0 (bit : BitVec 3)
  /-- `SELBYTE_GROUP_1`, rule R54, a code of group 1 with its set bit at `bit`. -/
  | selbyteGroup1 (bit : BitVec 3)
  /-- `SELBYTE_GROUP_2`, rule R54, a code of group 2 with its set bit at `bit`. -/
  | selbyteGroup2 (bit : BitVec 3)
  /-- `SELBYTE_GROUP_3`, rule R54, a code of group 3 with its set bit at `bit`. -/
  | selbyteGroup3 (bit : BitVec 3)
  /-- `SELBYTE_GROUP_4`, rule R54, a code of group 4 with its set bit at `bit`. -/
  | selbyteGroup4 (bit : BitVec 3)
  /-- `MASK16`, rule R58, a stored segment mask. -/
  | mask16 (seg : Mask)
  /-- `PATTERN8_COUNT`, rule R59, the published byte as a count. -/
  | pattern8Count
  /-- `PATTERN8_BITMASK`, rule R59, the published byte as a set of digits. -/
  | pattern8Bitmask
  /-- `TICK_INT`, rule R60, the internal tick counter. -/
  | tickInt
  /-- `TICK_PUB`, rule R60, the published tick counter. -/
  | tickPub
  deriving DecidableEq, Repr

end Sys2Proof
end

