-- ==== Sys2Proof/WellFormed.lean ====
section
/-! DEFINITION. Which operations are well formed: an operand that the spec restricts to part of its width is checked here. -/

namespace Sys2Proof

/-- Why an operation is not well formed. -/
inductive IllFormed where
  /-- `CHAR_SELECT` of a byte index above 4 (rule R54: byte index `i` in 0..4). -/
  | selectIndex
  /-- `CHAR_SELECT` of a reserved code (rule R54: a legal code 0..39). -/
  | selectCode
  deriving DecidableEq, Repr

/-- The operands of `CHAR_SELECT` (rule R54). -/
def checkSelect (i : BitVec 3) (c : Code) : Option IllFormed :=
  if Config.nSelBytes ≤ i.toNat then some .selectIndex
  else if Config.nCodes ≤ c.toNat then some .selectCode
  else none

/-- The first check an operation fails, if any.
Every other operand is legal over its whole width: `FONT_LOOKUP` answers for a reserved code too (rule R70), and
`SCAN_STEP` and `CLAMP` take any code on the port (rule R92). -/
def Instr.check : Instr → Option IllFormed
  | .charSelect i c => checkSelect i c
  | .scanStep _ _ | .accept | .idleWait | .tickCount | .clamp _ | .fontLookup _ | .digitSelect _ | .load
  | .shiftOutByte _ | .setData | .clkRise | .hold | .clkFall | .latchPulse | .latchRise | .latchFall
  | .btnSample | .accCount | .accBitmask _ | .advance | .publish | .srShift | .srLatch | .romRead
  | .digitDrive | .readPattern | .readTick | .reset | .ch0 | .ch1 | .ch2 | .ch3 | .ch4 | .ch5 | .ch6
  | .ch7 | .ch8 | .ch9 | .chSpace | .chA | .chB | .chC | .chD | .chE | .chF | .chG | .chH | .chI | .chJ
  | .chK | .chL | .chM | .chN | .chO | .chP | .chQ | .chR | .chS | .chT | .chU | .chV | .chW | .chX
  | .chY | .chZ | .chMinus | .chPlus | .chEquals | .reserved40to47 _ | .reserved48to63 _ | .frameB0
  | .frameB1 | .frameB2 | .frameB3 | .frameB4 | .frameB5 | .digsel0 | .digsel1 | .digsel2 | .digsel3
  | .digsel4 | .digsel5 | .digsel6 | .digsel7 | .selbyteGroup0 _ | .selbyteGroup1 _ | .selbyteGroup2 _
  | .selbyteGroup3 _ | .selbyteGroup4 _ | .mask16 _ | .pattern8Count | .pattern8Bitmask | .tickInt
  | .tickPub => none

/-- An operation that passes every check. -/
abbrev Instr.WellFormed (i : Instr) : Prop := i.check = none

end Sys2Proof
end

