-- ==== Sys2Proof/Decode.lean ====
section
/-! DEFINITION. The formats that have bit patterns (spec 30 rules R51 to R58): decoding, total on any number, rejecting by
name; then encoding, from the same tables; then the two interface functions on the opcode table's words. -/

namespace Sys2Proof

/-- The formats whose values the opcode table gives as bit patterns. -/
inductive Format where
  /-- `CODE6`, rule R51. -/
  | code6
  /-- `SELBYTE` at byte index `i`, rule R54: the byte alone does not say which of the five it is. -/
  | selbyte (i : BitVec 3)
  /-- `DIGSEL`, rule R55. -/
  | digsel
  /-- `MASK16`, rule R58. -/
  | mask16
  deriving DecidableEq, Repr

/-- The width of a format in bits (rule R50). -/
def Format.width : Format → Nat
  | .code6 => 6
  | .selbyte _ => 8
  | .digsel => 8
  | .mask16 => 16

/-- Why a number is no value of a format. -/
inductive Reject where
  /-- It has a bit at or above the format's width. -/
  | tooWide
  /-- A digit-select byte without exactly one 0 bit (rule R62: cannot be produced). -/
  | notOneCold
  /-- A select byte that is not one-hot, so that it is not the byte of the code's group (rule R54). -/
  | notOneHot
  /-- A select byte of index 5 or more (rule R54: 0..4). -/
  | selectIndex
  /-- A stored mask with bit 15 or 14 set (rule R58, "must stay 0"). -/
  | reservedMaskBits
  deriving DecidableEq, Repr

/-- A 6-bit code: the character it names (rule R52), or the reserved range it falls in (rule R53). -/
def decodeCode6 (c : Code) : Instr :=
  match c.toNat with
  | 0 => .ch0
  | 1 => .ch1
  | 2 => .ch2
  | 3 => .ch3
  | 4 => .ch4
  | 5 => .ch5
  | 6 => .ch6
  | 7 => .ch7
  | 8 => .ch8
  | 9 => .ch9
  | 10 => .chSpace
  | 11 => .chA
  | 12 => .chB
  | 13 => .chC
  | 14 => .chD
  | 15 => .chE
  | 16 => .chF
  | 17 => .chG
  | 18 => .chH
  | 19 => .chI
  | 20 => .chJ
  | 21 => .chK
  | 22 => .chL
  | 23 => .chM
  | 24 => .chN
  | 25 => .chO
  | 26 => .chP
  | 27 => .chQ
  | 28 => .chR
  | 29 => .chS
  | 30 => .chT
  | 31 => .chU
  | 32 => .chV
  | 33 => .chW
  | 34 => .chX
  | 35 => .chY
  | 36 => .chZ
  | 37 => .chMinus
  | 38 => .chPlus
  | 39 => .chEquals
  | _ =>
    if c.extractLsb' 3 3 = 0b101#3 then .reserved40to47 (c.extractLsb' 0 3)
    else .reserved48to63 (c.extractLsb' 0 4)

/-- A digit-select byte (rule R111). -/
def decodeDigsel (v : Byte) : Except Reject Instr :=
  match v.toNat with
  | 0xFE => .ok .digsel0
  | 0xFD => .ok .digsel1
  | 0xFB => .ok .digsel2
  | 0xF7 => .ok .digsel3
  | 0xEF => .ok .digsel4
  | 0xDF => .ok .digsel5
  | 0xBF => .ok .digsel6
  | 0x7F => .ok .digsel7
  | _ => .error .notOneCold

/-- The position of the one set bit of a byte. -/
def oneHotBit (v : Byte) : Option (BitVec 3) :=
  match v.toNat with
  | 0x01 => some 0
  | 0x02 => some 1
  | 0x04 => some 2
  | 0x08 => some 3
  | 0x10 => some 4
  | 0x20 => some 5
  | 0x40 => some 6
  | 0x80 => some 7
  | _ => none

/-- The operation of a code of group `g` with its set bit at `bit` (rule R54). -/
def selbyteInstr (g bit : BitVec 3) : Option Instr :=
  match g.toNat with
  | 0 => some (.selbyteGroup0 bit)
  | 1 => some (.selbyteGroup1 bit)
  | 2 => some (.selbyteGroup2 bit)
  | 3 => some (.selbyteGroup3 bit)
  | 4 => some (.selbyteGroup4 bit)
  | _ => none

/-- The select byte of index `i` that carries the set bit (rule R54). -/
def decodeSelbyte (i : BitVec 3) (v : Byte) : Except Reject Instr :=
  match oneHotBit v with
  | none => .error .notOneHot
  | some bit =>
    match selbyteInstr i bit with
    | none => .error .selectIndex
    | some instr => .ok instr

/-- A stored segment mask: bits 15 and 14 must be 0, the rest are the segments (rule R58). -/
def decodeMask16 (w : BitVec 16) : Except Reject Instr :=
  if w.extractLsb' 14 2 = 0 then .ok (.mask16 (w.extractLsb' 0 14)) else .error .reservedMaskBits

/-- The operation that the number `w` stands for in a format. -/
def decode (f : Format) (w : Nat) : Except Reject Instr :=
  if 2 ^ f.width ≤ w then .error .tooWide
  else
    match f with
    | .code6 => .ok (decodeCode6 (BitVec.ofNat 6 w))
    | .selbyte i => decodeSelbyte i (BitVec.ofNat 8 w)
    | .digsel => decodeDigsel (BitVec.ofNat 8 w)
    | .mask16 => decodeMask16 (BitVec.ofNat 16 w)

/-- The bit pattern of an operation, with its format; `none` for the rows that have no bit pattern (rule R61: "There are
no opcodes in the sense of bit patterns"). -/
def encode : Instr → Option (Format × Nat)
  | .ch0 => some (.code6, 0b000000)
  | .ch1 => some (.code6, 0b000001)
  | .ch2 => some (.code6, 0b000010)
  | .ch3 => some (.code6, 0b000011)
  | .ch4 => some (.code6, 0b000100)
  | .ch5 => some (.code6, 0b000101)
  | .ch6 => some (.code6, 0b000110)
  | .ch7 => some (.code6, 0b000111)
  | .ch8 => some (.code6, 0b001000)
  | .ch9 => some (.code6, 0b001001)
  | .chSpace => some (.code6, 0b001010)
  | .chA => some (.code6, 0b001011)
  | .chB => some (.code6, 0b001100)
  | .chC => some (.code6, 0b001101)
  | .chD => some (.code6, 0b001110)
  | .chE => some (.code6, 0b001111)
  | .chF => some (.code6, 0b010000)
  | .chG => some (.code6, 0b010001)
  | .chH => some (.code6, 0b010010)
  | .chI => some (.code6, 0b010011)
  | .chJ => some (.code6, 0b010100)
  | .chK => some (.code6, 0b010101)
  | .chL => some (.code6, 0b010110)
  | .chM => some (.code6, 0b010111)
  | .chN => some (.code6, 0b011000)
  | .chO => some (.code6, 0b011001)
  | .chP => some (.code6, 0b011010)
  | .chQ => some (.code6, 0b011011)
  | .chR => some (.code6, 0b011100)
  | .chS => some (.code6, 0b011101)
  | .chT => some (.code6, 0b011110)
  | .chU => some (.code6, 0b011111)
  | .chV => some (.code6, 0b100000)
  | .chW => some (.code6, 0b100001)
  | .chX => some (.code6, 0b100010)
  | .chY => some (.code6, 0b100011)
  | .chZ => some (.code6, 0b100100)
  | .chMinus => some (.code6, 0b100101)
  | .chPlus => some (.code6, 0b100110)
  | .chEquals => some (.code6, 0b100111)
  | .reserved40to47 x => some (.code6, 0b101000 + x.toNat)
  | .reserved48to63 x => some (.code6, 0b110000 + x.toNat)
  | .digsel0 => some (.digsel, 0b11111110)
  | .digsel1 => some (.digsel, 0b11111101)
  | .digsel2 => some (.digsel, 0b11111011)
  | .digsel3 => some (.digsel, 0b11110111)
  | .digsel4 => some (.digsel, 0b11101111)
  | .digsel5 => some (.digsel, 0b11011111)
  | .digsel6 => some (.digsel, 0b10111111)
  | .digsel7 => some (.digsel, 0b01111111)
  | .selbyteGroup0 bit => some (.selbyte 0, 2 ^ bit.toNat)
  | .selbyteGroup1 bit => some (.selbyte 1, 2 ^ bit.toNat)
  | .selbyteGroup2 bit => some (.selbyte 2, 2 ^ bit.toNat)
  | .selbyteGroup3 bit => some (.selbyte 3, 2 ^ bit.toNat)
  | .selbyteGroup4 bit => some (.selbyte 4, 2 ^ bit.toNat)
  | .mask16 seg => some (.mask16, seg.toNat)
  | .scanStep _ _ | .accept | .idleWait | .tickCount | .clamp _ | .fontLookup _ | .charSelect _ _
  | .digitSelect _ | .load | .shiftOutByte _ | .setData | .clkRise | .hold | .clkFall | .latchPulse
  | .latchRise | .latchFall | .btnSample | .accCount | .accBitmask _ | .advance | .publish | .srShift
  | .srLatch | .romRead | .digitDrive | .readPattern | .readTick | .reset | .frameB0 | .frameB1 | .frameB2
  | .frameB3 | .frameB4 | .frameB5 | .pattern8Count | .pattern8Bitmask | .tickInt | .tickPub => none

/-- The character set, in the order of the codes (rule R52). -/
def charset : List Char :=
  ['0', '1', '2', '3', '4', '5', '6', '7', '8', '9']
    ++ [' ', 'A', 'B', 'C', 'D', 'E', 'F', 'G', 'H', 'I']
    ++ ['J', 'K', 'L', 'M', 'N', 'O', 'P', 'Q', 'R', 'S']
    ++ ['T', 'U', 'V', 'W', 'X', 'Y', 'Z', '-', '+', '=']

/-- The character of a legal code (rule R52); a reserved code has none. -/
def charOfCode (c : Code) : Option Char := charset[c.toNat]?

/-- Text to codes, the whole "assembler" of the block (rule R65); a character outside the table has no code. -/
def codeOfChar (ch : Char) : Option Code := (charset.findIdx? (· == ch)).map (BitVec.ofNat 6)

/-- The operation of an opcode-table word. The 8-bit words are those of `CODE6` (bits 7 and 6 are 0) and of `DIGSEL`, which
share no value; the 16-bit words are those of `MASK16`. -/
def decodeTableWord (nbits w : Nat) : Option Instr :=
  if nbits = 8 then
    if w < 2 ^ 6 then (decode .code6 w).toOption else (decode .digsel w).toOption
  else if nbits = 16 then (decode .mask16 w).toOption
  else none

end Sys2Proof
end

