-- ==== Sys2Proof/Machine/State.lean ====
section
/-! DEFINITION. The state of the block (spec 10 rules R10 to R28), the model's own fields beside it, the state after
reset, and the reasons a step can stop. -/

namespace Sys2Proof.Machine

/-- The phases of the sequencer (rule R18): the micro-operation of the current cycle. -/
inductive Phase where
  | idle
  | load
  | bitData
  | bitClkHi
  | bitHold
  | bitClkLo
  | latPre
  | latHi
  | latHold
  | latLo
  | latPost
  | sample
  | advance
  deriving DecidableEq, Repr

/-- The pin events of a trace (rule R9, "Events and traces"). -/
inductive Event where
  /-- `D0`, `D1`: the data line is written, also with the level it has. -/
  | data (b : Level)
  /-- `C+` -/
  | clkUp
  /-- `C-` -/
  | clkDown
  /-- `L+` -/
  | latchUp
  /-- `L-` -/
  | latchDown
  /-- `H` -/
  | hold
  /-- `B?0`, `B?1`: the button line is read, with its level. -/
  | btn (b : Level)
  deriving DecidableEq, Repr

/-- The levels of the input ports in one cycle of `clk` (rule R21). -/
structure Inputs where
  rst : Level
  tick : Level
  charCode : Code
  btnN : Level
  deriving DecidableEq, Repr

/-- What an observer looks at (rules R44, R70, R71, R112, R160). An observer changes nothing of the block. -/
inductive Observation where
  /-- The port `pattern`. -/
  | pattern
  /-- The port `pattern`, read as the count of format PATTERN8. -/
  | patternCount
  /-- The port `pattern`, read as the bits of format PATTERN8. -/
  | patternBits
  /-- The port `tick_pub`. -/
  | tick
  /-- The port `tick_pub`, read in the format TICK. -/
  | tickField
  /-- The port `active_digit`. -/
  | activeDigit
  /-- The port `busy`. -/
  | busy
  /-- The ROM's segment lines. -/
  | segments
  /-- Which digits are enabled. -/
  | digits
  /-- A lookup in the font by a caller outside the block. -/
  | font (c : Code)
  /-- A stored font word of 16 bits, as the ROM's storage gives it. -/
  | storedMask (w : BitVec 16)
  deriving DecidableEq, Repr

/-- One entry of the script: what the environment does next. -/
inductive Act where
  /-- One cycle of `clk` with these input levels. -/
  | cycle (inp : Inputs)
  /-- An observer looks, within the current cycle. -/
  | observe (o : Observation)
  deriving DecidableEq, Repr

/-- What the last observation, or the last pure function, returned. -/
inductive Readout where
  /-- Nothing was read yet. -/
  | none
  /-- A byte. -/
  | byte (v : Byte)
  /-- A digit index: the port `active_digit`. -/
  | digit (d : Digit)
  /-- A level: the port `busy`. -/
  | level (b : Level)
  /-- A segment mask: the lines `SEG[13:0]`. -/
  | mask (m : Mask)
  /-- Bit `j` is `enabled(j)` of rule R112. -/
  | digits (e : Byte)
  /-- `PATTERN8` as a count. -/
  | count (n : Byte)
  /-- `PATTERN8` as a set of digits. -/
  | pressed (d : Byte)
  /-- The published byte is not of the format it was read in (rule R59: the format is by `BTN_MODE`). -/
  | otherFormat
  /-- The internal tick counter. -/
  | word (w : BitVec 16)
  deriving DecidableEq, Repr

/-- The state. The first sixteen fields are the registers of rule R10; the last six are the model's own. -/
structure State where
  /-- Index of the digit the next step shows (rule R11). -/
  activeDigit : Digit
  /-- Button result of this scan cycle so far (rule R12). -/
  btnAcc : Byte
  /-- Published button result (rule R13). -/
  pattern : Byte
  /-- Steps since `tickPub` last changed (rule R14). -/
  tickInt : BitVec 16
  /-- Published tick count (rule R15). -/
  tickPub : Byte
  /-- A tick was delivered and not yet accepted (rule R16). -/
  tickPend : Level
  /-- Level on the data line (rule R17). -/
  srData : Level
  /-- Level on the clock line (rule R17). -/
  srClk : Level
  /-- Level on the latch line (rule R17). -/
  srLatch : Level
  /-- The micro-operation of this cycle (rule R18). -/
  phase : Phase
  /-- Index of the frame byte being shifted, 0..5 (rule R18). -/
  byteIdx : BitVec 3
  /-- Index of the bit being shifted (rule R18). -/
  bitIdx : BitVec 3
  /-- The byte being drained, low bit next (rule R19). -/
  shreg : Byte
  /-- The clamped character code of this step, 0..39 (rule R19). -/
  codeQ : Code
  /-- The shift stage of the chain; bit `s` is stage `s` (rule R22). -/
  sh : Chain
  /-- The output stage of the chain (rule R22). -/
  out : Chain
  /-- Model's own: the build-time parameter `BTN_MODE` (rule R3). Nothing writes it. DESIGN CHOICE, safe: log entry 6. -/
  btnMode : BtnMode
  /-- Model's own: the events so far, oldest first (rule R9). DESIGN CHOICE, safe: log entry 7. -/
  trace : List Event
  /-- Model's own: what the environment does next, soonest first. DESIGN CHOICE, safe: log entry 2. -/
  script : List Act
  /-- Model's own: cycles of `clk` so far; the free inputs are functions of it. DESIGN CHOICE, safe: log entry 2. -/
  cycle : Nat
  /-- Model's own: free values drawn for the ROM's outputs so far. DESIGN CHOICE, safe: log entry 4. -/
  draws : Nat
  /-- Model's own: what the last observation returned. DESIGN CHOICE, safe: log entry 8. -/
  readout : Readout
  deriving DecidableEq, Repr

/-- The machine after reset: rule R25's table. `sh` and `out` are unspecified there: free values, fixed once (93 U4).
The model's own fields start empty, DESIGN CHOICE (log entries 2, 4, 6, 7, 8). -/
def State.reset : State where
  activeDigit := 0
  btnAcc := 0
  pattern := 0
  tickInt := 0
  tickPub := 0
  tickPend := false
  srData := false
  srClk := false
  srLatch := false
  phase := .idle
  byteIdx := 0
  bitIdx := 0
  shreg := 0
  codeQ := Config.blankCode
  sh := Config.powerOnShift
  out := Config.powerOnOut
  btnMode := Config.btnMode
  trace := []
  script := []
  cycle := 0
  draws := 0
  readout := .none

/-- Faults. There is none: "no operation of the block faults" (rule R150), so nobody raises one.
Safe: no behaviour of the block is left out by it. -/
inductive Fault where
  deriving DecidableEq, Repr

/-- Refusals. -/
inductive Refusal where
  /-- Raised by an arm of `exec` whose operation has no meaning yet. Safe. No arm does. -/
  | notModelled (mnemonic : String)
  /-- Raised by `step` for an observation of a stored font word with bit 15 or 14 set: no valid `FONT` holds one
  (93 U10: "refuse"). Safe: the model stops where the spec excludes the word. -/
  | reservedMaskBits
  deriving DecidableEq, Repr

/-- What a meaning answers. -/
abbrev Result := Host.Outcome State Fault Refusal

end Sys2Proof.Machine
end

