-- ==== Sys2Proof/Machine/Operands.lean ====
section
/-! DEFINITION. Operand assembly (spec 30 rules R51 to R58), the input levels of a cycle, and the lines that are functions
of the output stage (spec 10 rule R23, 40 rule R71, 43 rule R112, 46 rule R144). -/

namespace Sys2Proof.Machine

/-- `CLAMP` (rule R92): a legal code is kept, a reserved one becomes the blank code. -/
def clampCode (cIn : Code) : Code :=
  if cIn.toNat < Config.nCodes then cIn else Config.blankCode

/-- `c[5:3]`, the index of the select byte that carries the set bit (rule R51). -/
def codeGroup (c : Code) : BitVec 3 := c.extractLsb' 3 3

/-- `c[2:0]`, the position of the set bit in that byte (rule R51). -/
def codeBit (c : Code) : BitVec 3 := c.extractLsb' 0 3

/-- Select byte `i` of code `c` (rule R54). -/
def selbyte (i : BitVec 3) (c : Code) : Byte :=
  if i = codeGroup c then 1#8 <<< (codeBit c).toNat else 0

/-- The digit-select byte of digit `d` (rule R55): active low, one digit. -/
def digsel (d : Digit) : Byte := 0xFF#8 ^^^ (1#8 <<< d.toNat)

/-- Byte `i` of the frame for code `c` and digit `d` (rule R56). A byte index of 6 or 7 does not occur (rule R10: values
0..5); it is given the digit-select byte. DEDUCED, safe: log entry 11. -/
def frameByte (i : BitVec 3) (c : Code) (d : Digit) : Byte :=
  if i.toNat < Config.nSelBytes then selbyte i c else digsel d

/-- The frame as one number (rule R36): bit `k` is the bit at stream position `k`. -/
def frame48 (c : Code) (d : Digit) : Chain :=
  digsel d ++ selbyte 4 c ++ selbyte 3 c ++ selbyte 2 c ++ selbyte 1 c ++ selbyte 0 c

/-- The input levels of the first cycle in a script, or free values of the cycle number where the script gives none. -/
def inputsOf : List Act → Nat → Inputs
  | .cycle inp :: _, _ => inp
  | .observe _ :: rest, n => inputsOf rest n
  | [], n => ⟨Config.freeRst n, Config.freeTick n, Config.freeCode n, Config.freeBtn n⟩

/-- The levels on the input ports in the current cycle. -/
def State.inputs (s : State) : Inputs := inputsOf s.script s.cycle

/-- The latched frame in stream order, `LF[k] = out[47 - k]` (rule R144). -/
def latchedFrame (out : Chain) : Chain := out.reverse

/-- The ROM's select lines, bit `k` is `ROW[k]` (rule R144). -/
def rowLines (out : Chain) : BitVec 40 := (latchedFrame out).extractLsb' 0 40

/-- The digit lines, bit `j` is `DIG_N[j]`, active low (rule R144). -/
def digNLines (out : Chain) : Byte := (latchedFrame out).extractLsb' 40 8

/-- The one line that is high, if exactly one is (rule R71). -/
def oneHotRow (row : BitVec 40) : Option (Fin 40) :=
  (List.finRange 40).find? (fun k => row == BitVec.twoPow 40 k.val)

/-- `FONT(c)`; above 39 it is `FONT(10)` (rule R70, "to agree with the hardware it returns `FONT(10)` for `c` above 39"). -/
def fontMask (c : Code) : Mask :=
  if h : c.toNat < 40 then Config.font ⟨c.toNat, h⟩ else Config.font 10

/-- The stored word of a code: the mask in bits 13:0, and bits 15 and 14 equal to 0 (rules R58, R74). -/
def fontWord (c : Code) : BitVec 16 := 0#2 ++ fontMask c

/-- The letter of bit `i` of a mask (rule R58): `a` is bit 0, `n` is bit 13. A label only. -/
def segmentName (i : Fin 14) : Char := Char.ofNat (97 + i.val)

/-- The segments a mask lights: bit = 1 means lit (rule R58). -/
def litSegments (m : Mask) : List Char := ((List.finRange 14).filter fun i => m.getLsbD i.val).map segmentName

/-- The ROM as wired to the chain (rule R71): the selected word, or a free value where the address is not one-hot (R75). -/
def romRead (row : BitVec 40) (cycle draw : Nat) : Mask :=
  match oneHotRow row with
  | some k => Config.font k
  | none => Config.romFloating cycle draw

/-- `SEG[13:0]` (rule R71). -/
def State.segLines (s : State) : Mask := romRead (rowLines s.out) s.cycle s.draws

/-- Bit `j` is `enabled(j)` (rule R112): digit `j` is enabled while `DIG_N[j]` is 0. -/
def enabledDigits (out : Chain) : Byte := ~~~(digNLines out)

/-- The segments digit `j` shows (rule R114): the segment lines while it is enabled, else none. -/
def State.shown (s : State) (j : Digit) : Mask :=
  if (enabledDigits s.out).getLsbD j.toNat then s.segLines else 0

end Sys2Proof.Machine
end

