-- ==== Sys2Proof/Machine/Flags.lean ====
section
/-! DEFINITION. The conditions and the one flag of the block (spec 10 rules R16, R20; 60 rule R155), and its output ports
(spec 10 rule R21). No operation sets a carry, overflow, zero or sign flag (rule R106). -/

namespace Sys2Proof.Machine

/-- `pressed`, the line is active low (rule R120). -/
def pressed (btnN : Level) : Bool := !btnN

/-- `wrap` (rules R20, R96): the digit shown is the last one. -/
def wraps (d : Digit) : Bool := d.toNat + 1 == Config.nDigits

/-- `t > 49` after the increment (rules R20, R130). -/
def tickOver (tickInt : BitVec 16) : Bool := decide (Config.tickThreshold < tickInt + 1)

/-- The condition under which a step is accepted (rule R155). -/
def accepts (s : State) : Bool := s.phase == .idle && s.tickPend

/-- `tick_pend` at the end of a cycle (rule R155): a pulse sets it and wins, an acceptance clears it. -/
def nextPend (tick accept pend : Level) : Level :=
  if tick then true else if accept then false else pend

/-- The output port `busy` (rule R20). -/
def State.busy (s : State) : Level := s.phase != .idle

/-- The output ports (rule R21). -/
structure Ports where
  srData : Level
  srClk : Level
  srLatch : Level
  activeDigit : Digit
  pattern : Byte
  tickPub : Byte
  busy : Level
  deriving DecidableEq, Repr

/-- The levels on the output ports. -/
def State.ports (s : State) : Ports :=
  ⟨s.srData, s.srClk, s.srLatch, s.activeDigit, s.pattern, s.tickPub, s.busy⟩

end Sys2Proof.Machine
end

