-- ==== Sys2Proof/Machine/Ops.lean ====
section
/-! DEFINITION. The shared operations over the pins, the chain, the counters and the sequencer. -/

namespace Sys2Proof.Machine

/-! ## The pins and the receiver -/

/-- Append an event to the trace (rule R9). -/
def emit (e : Event) (s : State) : State := { s with trace := s.trace ++ [e] }

/-- `PinWrite(sr_data, b)`. -/
def writeData (b : Level) (s : State) : State := emit (.data b) { s with srData := b }

/-- `SR_SHIFT` (rule R141): every stage takes its neighbour's old bit, stage 0 the data line. -/
def shiftChain (s : State) : State := { s with sh := s.sh.shiftConcat s.srData }

/-- `SR_LATCH` (rule R142). -/
def latchChain (s : State) : State := { s with out := s.sh }

/-- `PinWrite(sr_clk, 1)`: the receiver shifts if the line goes from 0 to 1 (rule R141). In every state the sequencer
reaches here it does (rule R82). DEDUCED, safe: log entry 10. -/
def raiseClk (s : State) : State :=
  emit .clkUp (if s.srClk then s else shiftChain { s with srClk := true })

/-- `PinWrite(sr_clk, 0)`: the receiver does nothing (rule R145). -/
def lowerClk (s : State) : State := emit .clkDown { s with srClk := false }

/-- `PinWrite(sr_latch, 1)`: the receiver latches if the line goes from 0 to 1 (rule R142). -/
def raiseLatch (s : State) : State :=
  emit .latchUp (if s.srLatch then s else latchChain { s with srLatch := true })

/-- `PinWrite(sr_latch, 0)`: the receiver does nothing (rule R145). -/
def lowerLatch (s : State) : State := emit .latchDown { s with srLatch := false }

/-- `Hold()` (rules R45, R83): no line and no register changes. -/
def holdLines (s : State) : State := emit .hold s

/-- TD's `pulseClock()` (rule R64). -/
def pulseClock (s : State) : State := lowerClk (holdLines (raiseClk s))

/-- TD's `pulseLatch()`, `LATCH_PULSE` (rules R64, R94). -/
def pulseLatch (s : State) : State := holdLines (lowerLatch (holdLines (raiseLatch (holdLines s))))

/-! ## The serial driver -/

/-- The two writes of `SET_DATA` (rule R81): the low bit goes out, then the byte is halved. -/
def sendLowBit (s : State) : State := { writeData (s.shreg.getLsbD 0) s with shreg := s.shreg >>> 1 }

/-- `n` passes of the loop of rule R80. -/
def shiftBits : Nat → State → State
  | 0, s => s
  | n + 1, s => shiftBits n (pulseClock (sendLowBit s))

/-- `SHIFT_OUT_BYTE` (rule R80). -/
def shiftOut (v : Byte) (s : State) : State := shiftBits 8 { s with shreg := v }

/-- Frame emission (rule R93): bytes 0 to 5 of the frame of this step. -/
def shiftFrame (s : State) : State :=
  let byte (i : BitVec 3) : Byte := frameByte i s.codeQ s.activeDigit
  shiftOut (byte 5) (shiftOut (byte 4) (shiftOut (byte 3) (shiftOut (byte 2) (shiftOut (byte 1) (shiftOut (byte 0) s)))))

/-! ## The buttons -/

/-- `ACC_COUNT` (rule R121). -/
def countPress (s : State) : State := { s with btnAcc := s.btnAcc + 1 }

/-- `ACC_BITMASK` (rule R122). -/
def markPress (d : Digit) (s : State) : State := { s with btnAcc := s.btnAcc ||| (1#8 <<< d.toNat) }

/-- The accumulate of a pressed sample, by `BTN_MODE` (rule R120). -/
def accumulate (s : State) : State :=
  match s.btnMode with
  | .count => countPress s
  | .bitmask => markPress s.activeDigit s

/-- The sample of `BTN_SAMPLE` with the level `b` of the line (rule R120). -/
def sampleButton (b : Level) (s : State) : State :=
  if pressed b then accumulate (emit (.btn b) s) else emit (.btn b) s

/-- `PUBLISH` (rule R123). -/
def publishButtons (s : State) : State := { s with pattern := s.btnAcc, btnAcc := 0 }

/-! ## The tick counter -/

/-- `TICK_COUNT` (rule R130). -/
def countTick (s : State) : State :=
  if tickOver s.tickInt then { s with tickInt := 0, tickPub := s.tickPub + 1 }
  else { s with tickInt := s.tickInt + 1 }

/-! ## Entry to a step and return from it -/

/-- `code_q <- CLAMP(cIn)` (rule R92). -/
def takeCode (cIn : Code) (s : State) : State := { s with codeQ := clampCode cIn }

/-- Entry to a step, `ACCEPT` (rule R157), with the code `cIn` on `char_code`. Nothing is saved. The pending flag is
cleared here; a pulse in the same cycle sets it again at the end of the cycle (rule R155). -/
def enterStep (cIn : Code) (s : State) : State :=
  { countTick (takeCode cIn { s with tickPend := false }) with byteIdx := 0, phase := .load }

/-- Return from a step (rule R158): nothing is restored. -/
def returnFromStep (s : State) : State := { s with phase := .idle }

/-- `ADVANCE` (rule R96). -/
def advanceDigit (s : State) : State :=
  returnFromStep
    (if wraps s.activeDigit then publishButtons { s with activeDigit := 0 }
     else { s with activeDigit := s.activeDigit + 1 })

/-! ## The sequencer -/

/-- `LOAD` of the byte `v` (rule R99). -/
def loadByte (v : Byte) (s : State) : State := { s with shreg := v, bitIdx := 0, phase := .bitData }

/-- The phase after a hold (rule R98). In the other phases a hold is not selected; the phase stays.
DESIGN CHOICE, safe: log entry 12. -/
def phaseAfterHold : Phase → Phase
  | .bitHold => .bitClkLo
  | .latPre => .latHi
  | .latHold => .latLo
  | .latPost => .sample
  | .idle => .idle
  | .load => .load
  | .bitData => .bitData
  | .bitClkHi => .bitClkHi
  | .bitClkLo => .bitClkLo
  | .latHi => .latHi
  | .latLo => .latLo
  | .sample => .sample
  | .advance => .advance

/-- The loop control of `CLK_FALL` (rules R84, R98), on the counters as they are at the start of the cycle. -/
def nextBit (s : State) : State :=
  if s.bitIdx ≠ 7 then { s with bitIdx := s.bitIdx + 1, phase := .bitData }
  else if s.byteIdx ≠ 5 then { s with byteIdx := s.byteIdx + 1, phase := .load }
  else { s with phase := .latPre }

/-- The counters as the sequencer leaves them after the sixth byte (rule R98). -/
def endCounters (s : State) : State := { s with byteIdx := 5, bitIdx := 7 }

/-- The whole step (rule R90) for the code `cIn` and the level `b` of the button line. -/
def scanOnce (cIn : Code) (b : Level) (s : State) : State :=
  advanceDigit (sampleButton b (pulseLatch (endCounters (shiftFrame
    (takeCode cIn (countTick { s with tickPend := false }))))))

/-- `RESET` (rule R170): every clocked register takes its value of rule R25; the receiver is not touched. -/
def resetClocked (s : State) : State :=
  { s with
    activeDigit := 0, btnAcc := 0, pattern := 0, tickInt := 0, tickPub := 0, tickPend := false,
    srData := false, srClk := false, srLatch := false, phase := .idle, byteIdx := 0, bitIdx := 0,
    shreg := 0, codeQ := Config.blankCode }

/-- An observation's result. -/
def answer (r : Readout) (s : State) : State := { s with readout := r }

/-- `ROM_READ` (rule R71). A value at an address that is not one-hot is a fresh free value (rule R75). -/
def observeSegments (s : State) : State :=
  { s with
    readout := .mask s.segLines
    draws := if (oneHotRow (rowLines s.out)).isSome then s.draws else s.draws + 1 }

end Sys2Proof.Machine
end

