-- ==== Sys2Proof/Machine/Fetch.lean ====
section
/-! DEFINITION. Which operation runs next, what a step adds around it, and how a word is placed so that it runs next. The
block fetches no instructions (spec 30 rule R61: "which operation runs is decided by the sequencer's phase"); what stands
nearest to a fetch is the code taken from `char_code` in the accept cycle (spec 20 rule R48). -/

namespace Sys2Proof.Machine

/-- What the environment does next: the script's first entry, or a cycle whose input levels are free (rule R27). -/
def State.nextAct (s : State) : Act :=
  match s.script with
  | [] => .cycle s.inputs
  | a :: _ => a

/-- The operation of a LOAD cycle: the frame byte it loads (rules R56, R99), the sixth under the name of its digit
(rule R111). A byte index of 6 or 7 does not occur (rule R10). -/
def loadInstr (s : State) : Instr :=
  match s.byteIdx.toNat with
  | 0 => .frameB0
  | 1 => .frameB1
  | 2 => .frameB2
  | 3 => .frameB3
  | 4 => .frameB4
  | 5 => (decodeDigsel (digsel s.activeDigit)).toOption.getD .frameB5
  | _ => .load

/-- The operation of a cycle with the input levels `inp` (rules R61, R98, R156): reset first, then the phase's own. In the
accept cycle it is the one that the code on `char_code` stands for. -/
def fetched (inp : Inputs) (s : State) : Instr :=
  if inp.rst then .reset
  else
    match s.phase with
    | .idle => if s.tickPend then decodeCode6 inp.charCode else .idleWait
    | .load => loadInstr s
    | .bitData => .setData
    | .bitClkHi => .clkRise
    | .bitHold => .hold
    | .bitClkLo => .clkFall
    | .latPre => .hold
    | .latHi => .latchRise
    | .latHold => .hold
    | .latLo => .latchFall
    | .latPost => .hold
    | .sample => .btnSample
    | .advance => .advance

/-- The end of a cycle: a `tick` pulse sets the pending flag and wins over the acceptance (rules R155, R156), unless the
cycle was a reset, which discards it (rule R170). Then the next cycle begins. -/
def endCycle (inp : Inputs) (s : State) : State :=
  { s with
    tickPend := if inp.rst then s.tickPend else s.tickPend || inp.tick
    script := s.script.tail
    cycle := s.cycle + 1 }

/-- An observation is over; the cycle goes on. -/
def endObservation (s : State) : State := { s with script := s.script.tail }

/-- Apply `f` to a next state. -/
def mapNext (f : State → State) : Result → Result
  | .next s => .next (f s)
  | .fault r => .fault r
  | .refused r => .refused r

/-- One line `TICK code=<c> btn=<level>` of a stimulus script (rule R65) as cycles: one with the `tick` pulse, then the 206
of the step (rule R100). -/
def tickLine (c : Code) (btn : Level) : List Act :=
  .cycle ⟨false, true, c, btn⟩ :: List.replicate 206 (.cycle ⟨false, false, c, btn⟩)

/-- A line of the reference content source, which offers one code for every digit (rule R104). -/
def referenceLine (btn : Level) : List Act := tickLine Config.refCode btn

/-- The digit whose digit-select byte is `v` (rule R111). -/
def digitOfSelect (v : Byte) : Option Digit := oneHotBit (~~~v)

/-- Place an opcode-table word so that the next step runs it (log entry 14): a code on `char_code` in an accept cycle, a
digit-select byte as the byte of the next LOAD, a stored mask before an observer. A word that no format holds places
nothing. -/
def placeWord (nbits w : Nat) (s : State) : State :=
  if nbits = 8 then
    if w < 2 ^ 6 then
      { s with
        phase := .idle, tickPend := true
        script := .cycle ⟨false, false, BitVec.ofNat 6 w, true⟩ :: s.script }
    else
      match digitOfSelect (BitVec.ofNat 8 w) with
      | some d =>
        { s with
          phase := .load, byteIdx := 5, activeDigit := d
          script := .cycle ⟨false, false, Config.blankCode, true⟩ :: s.script }
      | none => s
  else if nbits = 16 then { s with script := .observe (.storedMask (BitVec.ofNat 16 w)) :: s.script }
  else s

end Sys2Proof.Machine
end

