-- ==== Sys2Proof/Machine/Buttons.lean ====
section
/-! DEFINITION. The button sampler (spec 44). -/

namespace Sys2Proof.Machine

/-- `BTN_SAMPLE` (rule R120), with the level on `btn_n`. -/
def execBtnSample (s : State) : Result := .next { sampleButton s.inputs.btnN s with phase := .advance }

/-- `ACC_COUNT` (rule R121). -/
def execAccCount (s : State) : Result := .next (countPress s)

/-- `ACC_BITMASK(d)` (rule R122). -/
def execAccBitmask (d : Digit) (s : State) : Result := .next (markPress d s)

/-- `PUBLISH` (rule R123). -/
def execPublish (s : State) : Result := .next (publishButtons s)

end Sys2Proof.Machine
end

