-- ==== Sys2Proof/Machine/CharCodes.lean ====
section
/-! DEFINITION. Character codes (spec 30 rules R51 to R54). A code on `char_code` acts in the accept cycle, the one moment
the block takes it (rules R48, R91): DESIGN CHOICE, safe: log entry 9. -/

namespace Sys2Proof.Machine

/-- `CHAR_SELECT(i, c)` (rule R54): pure; the byte is left in `readout`. -/
def execCharSelect (i : BitVec 3) (c : Code) (s : State) : Result := .next (answer (.byte (selbyte i c)) s)

/-- `CH_0` (rule R52): code 0 in the accept cycle. -/
def execCh0 (s : State) : Result := .next (enterStep 0 s)

/-- `CH_1` (rule R52): code 1 in the accept cycle. -/
def execCh1 (s : State) : Result := .next (enterStep 1 s)

/-- `CH_2` (rule R52): code 2 in the accept cycle. -/
def execCh2 (s : State) : Result := .next (enterStep 2 s)

/-- `CH_3` (rule R52): code 3 in the accept cycle. -/
def execCh3 (s : State) : Result := .next (enterStep 3 s)

/-- `CH_4` (rule R52): code 4 in the accept cycle. -/
def execCh4 (s : State) : Result := .next (enterStep 4 s)

/-- `CH_5` (rule R52): code 5 in the accept cycle. -/
def execCh5 (s : State) : Result := .next (enterStep 5 s)

/-- `CH_6` (rule R52): code 6 in the accept cycle. -/
def execCh6 (s : State) : Result := .next (enterStep 6 s)

/-- `CH_7` (rule R52): code 7 in the accept cycle. -/
def execCh7 (s : State) : Result := .next (enterStep 7 s)

/-- `CH_8` (rule R52): code 8 in the accept cycle. -/
def execCh8 (s : State) : Result := .next (enterStep 8 s)

/-- `CH_9` (rule R52): code 9 in the accept cycle. -/
def execCh9 (s : State) : Result := .next (enterStep 9 s)

/-- `CH_SPACE` (rule R52): code 10 in the accept cycle. -/
def execChSpace (s : State) : Result := .next (enterStep 10 s)

/-- `CH_A` (rule R52): code 11 in the accept cycle. -/
def execChA (s : State) : Result := .next (enterStep 11 s)

/-- `CH_B` (rule R52): code 12 in the accept cycle. -/
def execChB (s : State) : Result := .next (enterStep 12 s)

/-- `CH_C` (rule R52): code 13 in the accept cycle. -/
def execChC (s : State) : Result := .next (enterStep 13 s)

/-- `CH_D` (rule R52): code 14 in the accept cycle. -/
def execChD (s : State) : Result := .next (enterStep 14 s)

/-- `CH_E` (rule R52): code 15 in the accept cycle. -/
def execChE (s : State) : Result := .next (enterStep 15 s)

/-- `CH_F` (rule R52): code 16 in the accept cycle. -/
def execChF (s : State) : Result := .next (enterStep 16 s)

/-- `CH_G` (rule R52): code 17 in the accept cycle. -/
def execChG (s : State) : Result := .next (enterStep 17 s)

/-- `CH_H` (rule R52): code 18 in the accept cycle. -/
def execChH (s : State) : Result := .next (enterStep 18 s)

/-- `CH_I` (rule R52): code 19 in the accept cycle. -/
def execChI (s : State) : Result := .next (enterStep 19 s)

/-- `CH_J` (rule R52): code 20 in the accept cycle. -/
def execChJ (s : State) : Result := .next (enterStep 20 s)

/-- `CH_K` (rule R52): code 21 in the accept cycle. -/
def execChK (s : State) : Result := .next (enterStep 21 s)

/-- `CH_L` (rule R52): code 22 in the accept cycle. -/
def execChL (s : State) : Result := .next (enterStep 22 s)

/-- `CH_M` (rule R52): code 23 in the accept cycle. -/
def execChM (s : State) : Result := .next (enterStep 23 s)

/-- `CH_N` (rule R52): code 24 in the accept cycle. -/
def execChN (s : State) : Result := .next (enterStep 24 s)

/-- `CH_O` (rule R52): code 25 in the accept cycle. -/
def execChO (s : State) : Result := .next (enterStep 25 s)

/-- `CH_P` (rule R52): code 26 in the accept cycle. -/
def execChP (s : State) : Result := .next (enterStep 26 s)

/-- `CH_Q` (rule R52): code 27 in the accept cycle. -/
def execChQ (s : State) : Result := .next (enterStep 27 s)

/-- `CH_R` (rule R52): code 28 in the accept cycle. -/
def execChR (s : State) : Result := .next (enterStep 28 s)

/-- `CH_S` (rule R52): code 29 in the accept cycle. -/
def execChS (s : State) : Result := .next (enterStep 29 s)

/-- `CH_T` (rule R52): code 30 in the accept cycle. -/
def execChT (s : State) : Result := .next (enterStep 30 s)

/-- `CH_U` (rule R52): code 31 in the accept cycle. -/
def execChU (s : State) : Result := .next (enterStep 31 s)

/-- `CH_V` (rule R52): code 32 in the accept cycle. -/
def execChV (s : State) : Result := .next (enterStep 32 s)

/-- `CH_W` (rule R52): code 33 in the accept cycle. -/
def execChW (s : State) : Result := .next (enterStep 33 s)

/-- `CH_X` (rule R52): code 34 in the accept cycle. -/
def execChX (s : State) : Result := .next (enterStep 34 s)

/-- `CH_Y` (rule R52): code 35 in the accept cycle. -/
def execChY (s : State) : Result := .next (enterStep 35 s)

/-- `CH_Z` (rule R52): code 36 in the accept cycle. -/
def execChZ (s : State) : Result := .next (enterStep 36 s)

/-- `CH_MINUS` (rule R52): code 37 in the accept cycle. -/
def execChMinus (s : State) : Result := .next (enterStep 37 s)

/-- `CH_PLUS` (rule R52): code 38 in the accept cycle. -/
def execChPlus (s : State) : Result := .next (enterStep 38 s)

/-- `CH_EQUALS` (rule R52): code 39 in the accept cycle. -/
def execChEquals (s : State) : Result := .next (enterStep 39 s)

/-- `RESERVED_40_47` (rule R53): code `101xxx` in the accept cycle, clamped to 10. -/
def execReserved40to47 (x : BitVec 3) (s : State) : Result := .next (enterStep (0b101#3 ++ x) s)

/-- `RESERVED_48_63` (rule R53): code `11xxxx` in the accept cycle, clamped to 10. -/
def execReserved48to63 (x : BitVec 4) (s : State) : Result := .next (enterStep (0b11#2 ++ x) s)

end Sys2Proof.Machine
end

