-- ==== Sys2Proof/Machine/Digits.lean ====
section
/-! DEFINITION. The digit multiplexer (spec 43). -/

namespace Sys2Proof.Machine

/-- `DIGIT_SELECT(d)` (rules R55, R110): pure; the byte is left in `readout`. -/
def execDigitSelect (d : Digit) (s : State) : Result := .next (answer (.byte (digsel d)) s)

/-- `DIGIT_DRIVE` (rule R112): the enabled digits are left in `readout`. -/
def execDigitDrive (s : State) : Result := .next (answer (.digits (enabledDigits s.out)) s)

end Sys2Proof.Machine
end

