-- ==== Sys2Proof/Machine/Font.lean ====
section
/-! DEFINITION. The font ROM (spec 40). -/

namespace Sys2Proof.Machine

/-- `FONT_LOOKUP(c)` (rule R70): pure; the mask is left in `readout`. -/
def execFontLookup (c : Code) (s : State) : Result := .next (answer (.mask (fontMask c)) s)

/-- `ROM_READ` (rules R71, R75): the segment lines are left in `readout`. -/
def execRomRead (s : State) : Result := .next (observeSegments s)

end Sys2Proof.Machine
end

