-- ==== Sys2Proof/Machine/Formats.lean ====
section
/-! DEFINITION. Values read in a data format (spec 30 rules R58 to R60). DESIGN CHOICE, safe: log entries 8 and 9. -/

namespace Sys2Proof.Machine

/-- `MASK16` (rule R58): a stored mask is read; its 14 significant bits are left in `readout`. -/
def execMask16 (seg : Mask) (s : State) : Result := .next (answer (.mask seg) s)

/-- `PATTERN8_COUNT` (rule R59): in mode COUNT the byte is a count; in mode BITMASK it is not of this format. -/
def execPattern8Count (s : State) : Result :=
  .next (answer (match s.btnMode with | .count => .count s.pattern | .bitmask => .otherFormat) s)

/-- `PATTERN8_BITMASK` (rule R59): in mode BITMASK bit `d` is digit `d`; in mode COUNT the byte is not of this format. -/
def execPattern8Bitmask (s : State) : Result :=
  .next (answer (match s.btnMode with | .count => .otherFormat | .bitmask => .pressed s.pattern) s)

/-- `TICK_INT` (rule R60): the 16-bit count of steps since `tick_pub` last changed. No observation runs it (rule R134:
"`tick_int` is not exposed"). -/
def execTickInt (s : State) : Result := .next (answer (.word s.tickInt) s)

/-- `TICK_PUB` (rule R60): the 8-bit count of completed periods of 50 steps. -/
def execTickPub (s : State) : Result := .next (answer (.byte s.tickPub) s)

end Sys2Proof.Machine
end

