-- ==== Sys2Proof/Machine/FrameBytes.lean ====
section
/-! DEFINITION. Frame bytes (spec 30 rules R54 to R56, 43 rule R111). A byte acts in the LOAD cycle that takes it (rule R99):
DESIGN CHOICE, safe: log entry 9. -/

namespace Sys2Proof.Machine

/-- `FRAME_B0` (rule R56): the LOAD of byte 0 of the frame. -/
def execFrameB0 (s : State) : Result := .next (loadByte (frameByte 0 s.codeQ s.activeDigit) s)

/-- `FRAME_B1` (rule R56): the LOAD of byte 1 of the frame. -/
def execFrameB1 (s : State) : Result := .next (loadByte (frameByte 1 s.codeQ s.activeDigit) s)

/-- `FRAME_B2` (rule R56): the LOAD of byte 2 of the frame. -/
def execFrameB2 (s : State) : Result := .next (loadByte (frameByte 2 s.codeQ s.activeDigit) s)

/-- `FRAME_B3` (rule R56): the LOAD of byte 3 of the frame. -/
def execFrameB3 (s : State) : Result := .next (loadByte (frameByte 3 s.codeQ s.activeDigit) s)

/-- `FRAME_B4` (rule R56): the LOAD of byte 4 of the frame. -/
def execFrameB4 (s : State) : Result := .next (loadByte (frameByte 4 s.codeQ s.activeDigit) s)

/-- `FRAME_B5` (rule R56): the LOAD of byte 5 of the frame. -/
def execFrameB5 (s : State) : Result := .next (loadByte (frameByte 5 s.codeQ s.activeDigit) s)

/-- `DIGSEL_0` (rule R111): the LOAD of the digit-select byte of digit 0. -/
def execDigsel0 (s : State) : Result := .next (loadByte (digsel 0) s)

/-- `DIGSEL_1` (rule R111): the LOAD of the digit-select byte of digit 1. -/
def execDigsel1 (s : State) : Result := .next (loadByte (digsel 1) s)

/-- `DIGSEL_2` (rule R111): the LOAD of the digit-select byte of digit 2. -/
def execDigsel2 (s : State) : Result := .next (loadByte (digsel 2) s)

/-- `DIGSEL_3` (rule R111): the LOAD of the digit-select byte of digit 3. -/
def execDigsel3 (s : State) : Result := .next (loadByte (digsel 3) s)

/-- `DIGSEL_4` (rule R111): the LOAD of the digit-select byte of digit 4. -/
def execDigsel4 (s : State) : Result := .next (loadByte (digsel 4) s)

/-- `DIGSEL_5` (rule R111): the LOAD of the digit-select byte of digit 5. -/
def execDigsel5 (s : State) : Result := .next (loadByte (digsel 5) s)

/-- `DIGSEL_6` (rule R111): the LOAD of the digit-select byte of digit 6. -/
def execDigsel6 (s : State) : Result := .next (loadByte (digsel 6) s)

/-- `DIGSEL_7` (rule R111): the LOAD of the digit-select byte of digit 7. -/
def execDigsel7 (s : State) : Result := .next (loadByte (digsel 7) s)

/-- `SELBYTE_GROUP_0` (rule R54): the LOAD of a select byte of a code of group 0; only byte 0 is not zero. -/
def execSelbyteGroup0 (bit : BitVec 3) (s : State) : Result := .next (loadByte (if s.byteIdx = 0 then 1#8 <<< bit.toNat else 0) s)

/-- `SELBYTE_GROUP_1` (rule R54): the LOAD of a select byte of a code of group 1; only byte 1 is not zero. -/
def execSelbyteGroup1 (bit : BitVec 3) (s : State) : Result := .next (loadByte (if s.byteIdx = 1 then 1#8 <<< bit.toNat else 0) s)

/-- `SELBYTE_GROUP_2` (rule R54): the LOAD of a select byte of a code of group 2; only byte 2 is not zero. -/
def execSelbyteGroup2 (bit : BitVec 3) (s : State) : Result := .next (loadByte (if s.byteIdx = 2 then 1#8 <<< bit.toNat else 0) s)

/-- `SELBYTE_GROUP_3` (rule R54): the LOAD of a select byte of a code of group 3; only byte 3 is not zero. -/
def execSelbyteGroup3 (bit : BitVec 3) (s : State) : Result := .next (loadByte (if s.byteIdx = 3 then 1#8 <<< bit.toNat else 0) s)

/-- `SELBYTE_GROUP_4` (rule R54): the LOAD of a select byte of a code of group 4; only byte 4 is not zero. -/
def execSelbyteGroup4 (bit : BitVec 3) (s : State) : Result := .next (loadByte (if s.byteIdx = 4 then 1#8 <<< bit.toNat else 0) s)

end Sys2Proof.Machine
end

