-- ==== Sys2Proof/Machine/Reader.lean ====
section
/-! DEFINITION. The reader (spec 20 rule R44, spec 60 rules R160, R164). -/

namespace Sys2Proof.Machine

/-- `READ_PATTERN` (rule R44). -/
def execReadPattern (s : State) : Result := .next (answer (.byte s.pattern) s)

/-- `READ_TICK` (rule R44). -/
def execReadTick (s : State) : Result := .next (answer (.byte s.tickPub) s)

/-- The reader reads the port `active_digit` (rules R21, R160); the opcode table has no row for it. -/
def readActiveDigit (s : State) : Result := .next (answer (.digit s.activeDigit) s)

/-- The reader reads the port `busy` (rules R20, R160); the opcode table has no row for it. -/
def readBusy (s : State) : Result := .next (answer (.level s.busy) s)

end Sys2Proof.Machine
end

