-- ==== Sys2Proof/Machine/Receiver.lean ====
section
/-! DEFINITION. The shift chain (spec 46). -/

namespace Sys2Proof.Machine

/-- `SR_SHIFT` (rule R141). -/
def execSrShift (s : State) : Result := .next (shiftChain s)

/-- `SR_LATCH` (rule R142). -/
def execSrLatch (s : State) : Result := .next (latchChain s)

end Sys2Proof.Machine
end

