-- ==== Sys2Proof/Machine/Sequencer.lean ====
section
/-! DEFINITION. The sequencer and the composites of the step (spec 42, 60, 70). -/

namespace Sys2Proof.Machine

/-- `SCAN_STEP` (rule R90): the big step, with the code `cIn` of the accept cycle and the button level `b` of the
SAMPLE cycle. -/
def execScanStep (cIn : Code) (b : Level) (s : State) : Result := .next (scanOnce cIn b s)

/-- `ACCEPT` (rule R157), with the code on `char_code`. -/
def execAccept (s : State) : Result := .next (enterStep s.inputs.charCode s)

/-- `IDLE_WAIT` (rule R98): "Otherwise nothing". -/
def execIdleWait (s : State) : Result := .next s

/-- `CLAMP` (rule R92): `code_q <- CLAMP(c_in)`. -/
def execClamp (cIn : Code) (s : State) : Result := .next (takeCode cIn s)

/-- `LOAD` (rule R99): the frame byte that `byte_idx` names. -/
def execLoad (s : State) : Result := .next (loadByte (frameByte s.byteIdx s.codeQ s.activeDigit) s)

/-- `LATCH_PULSE` (rule R94), the composite. -/
def execLatchPulse (s : State) : Result := .next (pulseLatch s)

/-- `LATCH_RISE`, phase LAT_HI (rules R94, R98). -/
def execLatchRise (s : State) : Result := .next { raiseLatch s with phase := .latHold }

/-- `LATCH_FALL`, phase LAT_LO (rules R94, R98). -/
def execLatchFall (s : State) : Result := .next { lowerLatch s with phase := .latPost }

/-- `ADVANCE` (rule R96), which ends the step (rule R158). -/
def execAdvance (s : State) : Result := .next (advanceDigit s)

/-- `RESET` (rule R170). -/
def execReset (s : State) : Result := .next (resetClocked s)

end Sys2Proof.Machine
end

