-- ==== Sys2Proof/Machine/Serial.lean ====
section
/-! DEFINITION. The serial shift driver (spec 41). -/

namespace Sys2Proof.Machine

/-- `SHIFT_OUT_BYTE(v)` (rule R80), the composite. -/
def execShiftOutByte (v : Byte) (s : State) : Result := .next (shiftOut v s)

/-- `SET_DATA` (rule R81). -/
def execSetData (s : State) : Result := .next { sendLowBit s with phase := .bitClkHi }

/-- `CLK_RISE` (rule R82). -/
def execClkRise (s : State) : Result := .next { raiseClk s with phase := .bitHold }

/-- `HOLD` (rule R83), in the four phases of rule R98. -/
def execHold (s : State) : Result := .next { holdLines s with phase := phaseAfterHold s.phase }

/-- `CLK_FALL` (rule R84), with the loop control of rule R98. -/
def execClkFall (s : State) : Result := .next (nextBit (lowerClk s))

end Sys2Proof.Machine
end

