-- ==== Sys2Proof/Machine/Ticks.lean ====
section
/-! DEFINITION. The tick counter (spec 45). -/

namespace Sys2Proof.Machine

/-- `TICK_COUNT` (rule R130). -/
def execTickCount (s : State) : Result := .next (countTick s)

end Sys2Proof.Machine
end

