-- ==== Sys2Proof/Machine/Dispatch.lean ====
section
/-! DEFINITION. One arm per operation. -/

namespace Sys2Proof.Machine

def exec (i : Instr) (s : State) : Host.Outcome State Fault Refusal :=
  match i with
  | .scanStep cIn b => Sys2Proof.Machine.execScanStep cIn b s
  | .accept => Sys2Proof.Machine.execAccept s
  | .idleWait => Sys2Proof.Machine.execIdleWait s
  | .tickCount => Sys2Proof.Machine.execTickCount s
  | .clamp cIn => Sys2Proof.Machine.execClamp cIn s
  | .fontLookup c => Sys2Proof.Machine.execFontLookup c s
  | .charSelect idx c => Sys2Proof.Machine.execCharSelect idx c s
  | .digitSelect d => Sys2Proof.Machine.execDigitSelect d s
  | .load => Sys2Proof.Machine.execLoad s
  | .shiftOutByte v => Sys2Proof.Machine.execShiftOutByte v s
  | .setData => Sys2Proof.Machine.execSetData s
  | .clkRise => Sys2Proof.Machine.execClkRise s
  | .hold => Sys2Proof.Machine.execHold s
  | .clkFall => Sys2Proof.Machine.execClkFall s
  | .latchPulse => Sys2Proof.Machine.execLatchPulse s
  | .latchRise => Sys2Proof.Machine.execLatchRise s
  | .latchFall => Sys2Proof.Machine.execLatchFall s
  | .btnSample => Sys2Proof.Machine.execBtnSample s
  | .accCount => Sys2Proof.Machine.execAccCount s
  | .accBitmask d => Sys2Proof.Machine.execAccBitmask d s
  | .advance => Sys2Proof.Machine.execAdvance s
  | .publish => Sys2Proof.Machine.execPublish s
  | .srShift => Sys2Proof.Machine.execSrShift s
  | .srLatch => Sys2Proof.Machine.execSrLatch s
  | .romRead => Sys2Proof.Machine.execRomRead s
  | .digitDrive => Sys2Proof.Machine.execDigitDrive s
  | .readPattern => Sys2Proof.Machine.execReadPattern s
  | .readTick => Sys2Proof.Machine.execReadTick s
  | .reset => Sys2Proof.Machine.execReset s
  | .ch0 => Sys2Proof.Machine.execCh0 s
  | .ch1 => Sys2Proof.Machine.execCh1 s
  | .ch2 => Sys2Proof.Machine.execCh2 s
  | .ch3 => Sys2Proof.Machine.execCh3 s
  | .ch4 => Sys2Proof.Machine.execCh4 s
  | .ch5 => Sys2Proof.Machine.execCh5 s
  | .ch6 => Sys2Proof.Machine.execCh6 s
  | .ch7 => Sys2Proof.Machine.execCh7 s
  | .ch8 => Sys2Proof.Machine.execCh8 s
  | .ch9 => Sys2Proof.Machine.execCh9 s
  | .chSpace => Sys2Proof.Machine.execChSpace s
  | .chA => Sys2Proof.Machine.execChA s
  | .chB => Sys2Proof.Machine.execChB s
  | .chC => Sys2Proof.Machine.execChC s
  | .chD => Sys2Proof.Machine.execChD s
  | .chE => Sys2Proof.Machine.execChE s
  | .chF => Sys2Proof.Machine.execChF s
  | .chG => Sys2Proof.Machine.execChG s
  | .chH => Sys2Proof.Machine.execChH s
  | .chI => Sys2Proof.Machine.execChI s
  | .chJ => Sys2Proof.Machine.execChJ s
  | .chK => Sys2Proof.Machine.execChK s
  | .chL => Sys2Proof.Machine.execChL s
  | .chM => Sys2Proof.Machine.execChM s
  | .chN => Sys2Proof.Machine.execChN s
  | .chO => Sys2Proof.Machine.execChO s
  | .chP => Sys2Proof.Machine.execChP s
  | .chQ => Sys2Proof.Machine.execChQ s
  | .chR => Sys2Proof.Machine.execChR s
  | .chS => Sys2Proof.Machine.execChS s
  | .chT => Sys2Proof.Machine.execChT s
  | .chU => Sys2Proof.Machine.execChU s
  | .chV => Sys2Proof.Machine.execChV s
  | .chW => Sys2Proof.Machine.execChW s
  | .chX => Sys2Proof.Machine.execChX s
  | .chY => Sys2Proof.Machine.execChY s
  | .chZ => Sys2Proof.Machine.execChZ s
  | .chMinus => Sys2Proof.Machine.execChMinus s
  | .chPlus => Sys2Proof.Machine.execChPlus s
  | .chEquals => Sys2Proof.Machine.execChEquals s
  | .reserved40to47 x => Sys2Proof.Machine.execReserved40to47 x s
  | .reserved48to63 x => Sys2Proof.Machine.execReserved48to63 x s
  | .frameB0 => Sys2Proof.Machine.execFrameB0 s
  | .frameB1 => Sys2Proof.Machine.execFrameB1 s
  | .frameB2 => Sys2Proof.Machine.execFrameB2 s
  | .frameB3 => Sys2Proof.Machine.execFrameB3 s
  | .frameB4 => Sys2Proof.Machine.execFrameB4 s
  | .frameB5 => Sys2Proof.Machine.execFrameB5 s
  | .digsel0 => Sys2Proof.Machine.execDigsel0 s
  | .digsel1 => Sys2Proof.Machine.execDigsel1 s
  | .digsel2 => Sys2Proof.Machine.execDigsel2 s
  | .digsel3 => Sys2Proof.Machine.execDigsel3 s
  | .digsel4 => Sys2Proof.Machine.execDigsel4 s
  | .digsel5 => Sys2Proof.Machine.execDigsel5 s
  | .digsel6 => Sys2Proof.Machine.execDigsel6 s
  | .digsel7 => Sys2Proof.Machine.execDigsel7 s
  | .selbyteGroup0 bit => Sys2Proof.Machine.execSelbyteGroup0 bit s
  | .selbyteGroup1 bit => Sys2Proof.Machine.execSelbyteGroup1 bit s
  | .selbyteGroup2 bit => Sys2Proof.Machine.execSelbyteGroup2 bit s
  | .selbyteGroup3 bit => Sys2Proof.Machine.execSelbyteGroup3 bit s
  | .selbyteGroup4 bit => Sys2Proof.Machine.execSelbyteGroup4 bit s
  | .mask16 seg => Sys2Proof.Machine.execMask16 seg s
  | .pattern8Count => Sys2Proof.Machine.execPattern8Count s
  | .pattern8Bitmask => Sys2Proof.Machine.execPattern8Bitmask s
  | .tickInt => Sys2Proof.Machine.execTickInt s
  | .tickPub => Sys2Proof.Machine.execTickPub s

end Sys2Proof.Machine
end

