-- ==== Sys2Proof/Machine/Observe.lean ====
section
/-! DEFINITION. What each observation does: the four ports of the reader (spec 60 rules R160, R164), the lines, the font. -/

namespace Sys2Proof.Machine

/-- An observation within a cycle: the meaning of its row, or a port that has none. A stored word is decoded first, and
refused where no valid font holds it (93 U10): DESIGN CHOICE, safe: log entry 15. -/
def observe (o : Observation) (s : State) : Result :=
  match o with
  | .pattern => exec .readPattern s
  | .patternCount => exec .pattern8Count s
  | .patternBits => exec .pattern8Bitmask s
  | .tick => exec .readTick s
  | .tickField => exec .tickPub s
  | .activeDigit => readActiveDigit s
  | .busy => readBusy s
  | .segments => exec .romRead s
  | .digits => exec .digitDrive s
  | .font c => exec (.fontLookup c) s
  | .storedMask w =>
    match decodeMask16 w with
    | .ok i => exec i s
    | .error _ => .refused .reservedMaskBits

end Sys2Proof.Machine
end

