-- ==== Sys2Proof/Machine/Step.lean ====
section
/-! DEFINITION. One step of the machine: a cycle of `clk` (spec 42 rule R98), or an observation within one. -/

namespace Sys2Proof.Machine

/-- One step. -/
def step (s : State) : Host.Outcome State Fault Refusal :=
  match s.nextAct with
  | .cycle inp => mapNext (endCycle inp) (exec (fetched inp s) s)
  | .observe o => mapNext endObservation (observe o s)

/-- `s` with an opcode-table word placed so that the next step runs it. -/
def State.withFetchWord (s : State) (nbits w : Nat) : State := placeWord nbits w s

end Sys2Proof.Machine
end

