-- ==== Sys2Proof/Safety.lean ====
section
/-! DEFINITION. The terms that claims use: runs, traces in closed form, and the invariants of the sequencer and of the
chain. No operation faults (spec 60 rule R150); a state is good when it meets the invariants below. -/

namespace Sys2Proof.Machine

/-- `n` steps. -/
def runSteps : Nat → State → Result
  | 0, s => .next s
  | n + 1, s =>
    match step s with
    | .next t => runSteps n t
    | .fault r => .fault r
    | .refused r => .refused r

/-- The scan steps of a stimulus, one for each line `TICK code=<c> btn=<level>` (rule R65), at the grain of the big step. -/
def runLines : List (Code × Level) → State → Result
  | [], s => .next s
  | (c, b) :: rest, s =>
    match exec (.scanStep c b) s with
    | .next t => runLines rest t
    | .fault r => .fault r
    | .refused r => .refused r

/-- The 32 events of `SHIFT_OUT_BYTE(v)` (rule R80). -/
def byteTrace (v : Byte) : List Event :=
  (List.range 8).flatMap fun j => [.data (v.getLsbD j), .clkUp, .hold, .clkDown]

/-- The 198 events of a scan step (rule R90). -/
def scanTrace (c : Code) (d : Digit) (b : Level) : List Event :=
  byteTrace (selbyte 0 c) ++ byteTrace (selbyte 1 c) ++ byteTrace (selbyte 2 c) ++ byteTrace (selbyte 3 c)
    ++ byteTrace (selbyte 4 c) ++ byteTrace (digsel d)
    ++ [.hold, .latchUp, .hold, .latchDown, .hold, .btn b]

/-- The rows of the character codes with their codes (rule R52). -/
def characterRows : List (Instr × Code) :=
  [(Instr.ch0, 0), (.ch1, 1), (.ch2, 2), (.ch3, 3), (.ch4, 4), (.ch5, 5), (.ch6, 6), (.ch7, 7), (.ch8, 8), (.ch9, 9)]
    ++ [(Instr.chSpace, 10), (.chA, 11), (.chB, 12), (.chC, 13), (.chD, 14), (.chE, 15), (.chF, 16), (.chG, 17), (.chH, 18), (.chI, 19)]
    ++ [(Instr.chJ, 20), (.chK, 21), (.chL, 22), (.chM, 23), (.chN, 24), (.chO, 25), (.chP, 26), (.chQ, 27), (.chR, 28), (.chS, 29)]
    ++ [(Instr.chT, 30), (.chU, 31), (.chV, 32), (.chW, 33), (.chX, 34), (.chY, 35), (.chZ, 36), (.chMinus, 37), (.chPlus, 38), (.chEquals, 39)]

/-! ## The sequencer's invariant -/

/-- The clock line is high exactly between `CLK_RISE` and `CLK_FALL`, the latch line exactly between `LATCH_RISE` and
`LATCH_FALL` (rules R17, R85, R94). -/
abbrev LinesFollowPhase (s : State) : Prop :=
  (s.srClk = true ↔ s.phase = .bitHold ∨ s.phase = .bitClkLo) ∧
  (s.srLatch = true ↔ s.phase = .latHold ∨ s.phase = .latLo)

/-- The counters and the code stay in the ranges of rule R10 and rule R14. -/
abbrev CountersInRange (s : State) : Prop :=
  s.tickInt.toNat ≤ 49 ∧ s.byteIdx.toNat ≤ 5 ∧ s.codeQ.toNat ≤ 39

/-- The digits sampled so far in this scan cycle: in the ADVANCE cycle the shown digit is one of them (rule R125). -/
def sampledDigits (s : State) : Nat :=
  match s.phase with
  | .advance => s.activeDigit.toNat + 1
  | .idle | .load | .bitData | .bitClkHi | .bitHold | .bitClkLo | .latPre | .latHi | .latHold | .latLo | .latPost
  | .sample => s.activeDigit.toNat

/-- The bounds of rule R125 on the accumulator and, in mode COUNT, on the published byte. -/
abbrev ButtonsInRange (s : State) : Prop :=
  (s.btnMode = .count → s.btnAcc.toNat ≤ sampledDigits s ∧ s.pattern.toNat ≤ 8) ∧
  (s.btnMode = .bitmask → s.btnAcc >>> sampledDigits s = 0)

/-- The sequencer's invariant, in every phase; rule R28 is its part for phase IDLE. -/
abbrev Inv (s : State) : Prop := LinesFollowPhase s ∧ CountersInRange s ∧ ButtonsInRange s

/-! ## The chain's invariant -/

/-- The frame of the step that runs (rule R56). -/
def stepFrame (s : State) : Chain := frame48 s.codeQ s.activeDigit

/-- How many bits of the step's frame are in the shift stage. -/
def bitsSent (s : State) : Nat :=
  match s.phase with
  | .idle => 0
  | .load => 8 * s.byteIdx.toNat
  | .bitData | .bitClkHi => 8 * s.byteIdx.toNat + s.bitIdx.toNat
  | .bitHold | .bitClkLo => 8 * s.byteIdx.toNat + s.bitIdx.toNat + 1
  | .latPre | .latHi | .latHold | .latLo | .latPost | .sample | .advance => 48

/-- The bits sent so far stand in the shift stage, the last one at stage 0 (rules R141, R143). -/
def ShiftProgress (s : State) : Prop :=
  ∀ k < bitsSent s, s.sh.getLsbD (bitsSent s - 1 - k) = (stepFrame s).getLsbD k

/-- What is left of the current byte stands in `shreg`, and the data line holds the bit to be clocked (rules R81, R99). -/
def DrainProgress (s : State) : Prop :=
  match s.phase with
  | .bitData => s.shreg = frameByte s.byteIdx s.codeQ s.activeDigit >>> s.bitIdx.toNat
  | .bitClkHi =>
    s.shreg = frameByte s.byteIdx s.codeQ s.activeDigit >>> (s.bitIdx.toNat + 1) ∧
    s.srData = (stepFrame s).getLsbD (8 * s.byteIdx.toNat + s.bitIdx.toNat)
  | .bitHold | .bitClkLo => s.shreg = frameByte s.byteIdx s.codeQ s.activeDigit >>> (s.bitIdx.toNat + 1)
  | .idle | .load | .latPre | .latHi | .latHold | .latLo | .latPost | .sample | .advance => True

/-- From `L+` to the end of the step the output stage holds the step's frame (rule R142). -/
def LatchedThisStep (s : State) : Prop :=
  match s.phase with
  | .latHold | .latLo | .latPost | .sample | .advance => s.out = s.sh
  | .idle | .load | .bitData | .bitClkHi | .bitHold | .bitClkLo | .latPre | .latHi => True

/-- The invariant of the sequencer and the chain together. -/
def ScanInv (s : State) : Prop := Inv s ∧ ShiftProgress s ∧ DrainProgress s ∧ LatchedThisStep s

/-- The output stage holds a whole frame, of a legal code and a digit (rule R146). -/
def DisplayWhole (s : State) : Prop :=
  ∃ (c : Code) (d : Digit), c.toNat ≤ 39 ∧ latchedFrame s.out = frame48 c d

end Sys2Proof.Machine
end

