-- ==== Sys2Proof/Certificates/Slice0/Obligations.lean ====
section
/-! DEFINITION. Statements for the provers. Where a statement rests on a decision of the spec (D1 to D29) or on a choice of
the model (a log entry), its docstring or title in OBLIGATIONS.json names it. -/

open Sys2Proof Sys2Proof.Machine

/-- Words written out from the tables decode to the rows they stand for. -/
def Obligations.TableWordsDecodeToTheirRows : Prop :=
  decode .code6 0b001011 = .ok .chA ∧
  decode .code6 0b100111 = .ok .chEquals ∧
  decode .code6 0b101111 = .ok (.reserved40to47 0b111) ∧
  decode .code6 0b110000 = .ok (.reserved48to63 0b0000) ∧
  decode .digsel 0b11110111 = .ok .digsel3 ∧
  decode (.selbyte 4) 0b10000000 = .ok (.selbyteGroup4 7) ∧
  decode .mask16 0b0010000000000001 = .ok (.mask16 0b10000000000001) ∧
  decode .mask16 0b0100000000000000 = .error .reservedMaskBits ∧
  decodeTableWord 8 0b00001010 = some .chSpace ∧
  decodeTableWord 8 0b01111111 = some .digsel7

/-- Decoding the encoding of a well-formed operation gives the operation back. -/
def Obligations.DecodeUndoesEncode : Prop :=
  ∀ (i : Instr) (f : Format) (w : Nat), i.WellFormed → encode i = some (f, w) → decode f w = .ok i

/-- Encoding what a number decodes to gives the number and its format back. -/
def Obligations.EncodeUndoesDecode : Prop :=
  ∀ (f : Format) (w : Nat) (i : Instr), decode f w = .ok i → encode i = some (f, w)

/-- Text to codes: digits, space, capital letters, three signs, and no other character. -/
def Obligations.CharactersHaveTheirCodes : Prop :=
  (∀ n < 10, codeOfChar (Char.ofNat (48 + n)) = some (BitVec.ofNat 6 n)) ∧
  codeOfChar ' ' = some 10 ∧
  (∀ n < 26, codeOfChar (Char.ofNat (65 + n)) = some (BitVec.ofNat 6 (11 + n))) ∧
  codeOfChar '-' = some 37 ∧ codeOfChar '+' = some 38 ∧ codeOfChar '=' = some 39 ∧
  (∀ ch c, codeOfChar ch = some c → c.toNat < 40 ∧ charOfCode c = some ch) ∧
  (∀ c : Code, 40 ≤ c.toNat → charOfCode c = none)

/-- The five select bytes of a legal code hold one set bit, at byte code / 8, position code % 8. -/
def Obligations.SelectBytesAreOneHot : Prop :=
  ∀ (i : BitVec 3) (c : Code), i.toNat ≤ 4 → c.toNat ≤ 39 →
    selbyte i c = (if i = c.extractLsb' 3 3 then 1#8 <<< (c.extractLsb' 0 3).toNat else 0) ∧
    ∀ j < 8, ((selbyte i c).getLsbD j = true ↔ 8 * i.toNat + j = c.toNat)

/-- The digit-select byte is all ones but at the position of the active digit. -/
def Obligations.DigitSelectByteHasOneClearBit : Prop :=
  (∀ d : Digit, digsel d = 0xFF#8 ^^^ (1#8 <<< d.toNat)) ∧
  (∀ (d : Digit), ∀ j < 8, ((digsel d).getLsbD j = false ↔ j = d.toNat)) ∧
  [digsel 0, digsel 1, digsel 2, digsel 3, digsel 4, digsel 5, digsel 6, digsel 7] =
    [0xFE, 0xFD, 0xFB, 0xF7, 0xEF, 0xDF, 0xBF, 0x7F]

/-- The frame: among positions 0..39 a 1 at the code only, among 40..47 a 0 at the digit only. -/
def Obligations.FrameInClosedForm : Prop :=
  ∀ (c : Code) (d : Digit), c.toNat ≤ 39 → ∀ k < 48,
    ((frame48 c d).getLsbD k = true ↔ (k < 40 ∧ k = c.toNat) ∨ (40 ≤ k ∧ k - 40 ≠ d.toNat))

/-- ACCEPT clears the flag, clamps the code, counts the tick and goes to LOAD of byte 0 (decisions D3, D5, D6, D14). -/
def Obligations.AcceptEntersTheStep : Prop :=
  ∀ s : State, exec .accept s = .next
    { s with
      tickPend := false, codeQ := if s.inputs.charCode.toNat ≤ 39 then s.inputs.charCode else 10, byteIdx := 0, phase := .load
      tickInt := if 49 < s.tickInt + 1 then 0 else s.tickInt + 1
      tickPub := if 49 < s.tickInt + 1 then s.tickPub + 1 else s.tickPub }

/-- The 40 character codes act in the accept cycle with their own code (the model's choice, log entry 9). -/
def Obligations.CharacterCodesEnterTheStep : Prop :=
  ∀ r ∈ characterRows, ∀ s : State, exec r.1 s = .next
    { s with
      tickPend := false, codeQ := r.2, byteIdx := 0, phase := .load
      tickInt := if 49 < s.tickInt + 1 then 0 else s.tickInt + 1
      tickPub := if 49 < s.tickInt + 1 then s.tickPub + 1 else s.tickPub }

/-- The reserved codes act in the accept cycle as code 10 (decision D6; the model's choice, log entry 9). -/
def Obligations.ReservedCodesEnterTheStepAsSpace : Prop :=
  (∀ (x : BitVec 3) (s : State), exec (.reserved40to47 x) s = .next
    { s with
      tickPend := false, codeQ := 10, byteIdx := 0, phase := .load
      tickInt := if 49 < s.tickInt + 1 then 0 else s.tickInt + 1
      tickPub := if 49 < s.tickInt + 1 then s.tickPub + 1 else s.tickPub }) ∧
  (∀ (x : BitVec 4) (s : State), exec (.reserved48to63 x) s = .next
    { s with
      tickPend := false, codeQ := 10, byteIdx := 0, phase := .load
      tickInt := if 49 < s.tickInt + 1 then 0 else s.tickInt + 1
      tickPub := if 49 < s.tickInt + 1 then s.tickPub + 1 else s.tickPub })

/-- A reserved code on char_code acts exactly as if 10 had been offered (decision D6). -/
def Obligations.ReservedCodeActsAsSpace : Prop :=
  ∀ (s : State) (inp : Inputs) (rest : List Act), 40 ≤ inp.charCode.toNat →
    step { s with script := .cycle inp :: rest } =
      step { s with script := .cycle { inp with charCode := 10 } :: rest }

/-- TICK_COUNT: the increment is compared with 49; above it tick_int is 0 and tick_pub counts. -/
def Obligations.TickCountDividesByFifty : Prop :=
  ∀ s : State, exec .tickCount s = .next
    { s with
      tickInt := if 49 < s.tickInt + 1 then 0 else s.tickInt + 1
      tickPub := if 49 < s.tickInt + 1 then s.tickPub + 1 else s.tickPub }

/-- CLAMP keeps 0..39 and turns 40..63 into 10 (decision D6). -/
def Obligations.ClampKeepsLegalCodes : Prop :=
  ∀ (c : Code) (s : State), exec (.clamp c) s = .next { s with codeQ := if c.toNat ≤ 39 then c else 10 }

/-- FONT_LOOKUP, CHAR_SELECT and DIGIT_SELECT answer their value and change no register (readout: log entry 8). -/
def Obligations.PureFunctionsAnswer : Prop :=
  (∀ (c : Code) (s : State) (h : c.toNat < 40),
    exec (.fontLookup c) s = .next { s with readout := .mask (Config.font ⟨c.toNat, h⟩) }) ∧
  (∀ (c : Code) (s : State), 40 ≤ c.toNat →
    exec (.fontLookup c) s = .next { s with readout := .mask (Config.font 10) }) ∧
  (∀ (i : BitVec 3) (c : Code) (s : State), Instr.WellFormed (.charSelect i c) →
    exec (.charSelect i c) s = .next
      { s with
        readout := .byte (if i = c.extractLsb' 3 3 then 1#8 <<< (c.extractLsb' 0 3).toNat else 0) }) ∧
  (∀ (d : Digit) (s : State),
    exec (.digitSelect d) s = .next { s with readout := .byte (0xFF#8 ^^^ (1#8 <<< d.toNat)) })

/-- LOAD fills shreg with the frame byte that byte_idx names (decision D9). -/
def Obligations.LoadTakesTheFrameByte : Prop :=
  ∀ s : State, s.byteIdx.toNat ≤ 5 → exec .load s = .next
    { s with
      shreg :=
        if s.byteIdx = 5 then 0xFF#8 ^^^ (1#8 <<< s.activeDigit.toNat)
        else if s.byteIdx = s.codeQ.extractLsb' 3 3 then 1#8 <<< (s.codeQ.extractLsb' 0 3).toNat
        else 0
      bitIdx := 0, phase := .bitData }

/-- FRAME_B0 to FRAME_B5 load their own byte of the frame (the model's choice, log entry 9). -/
def Obligations.FrameRowsLoadTheirByte : Prop :=
  (∀ (r : Instr × BitVec 3),
    r ∈ [(Instr.frameB0, 0), (.frameB1, 1), (.frameB2, 2), (.frameB3, 3), (.frameB4, 4)] → ∀ s : State,
    exec r.1 s = .next
      { s with
        shreg := if r.2 = s.codeQ.extractLsb' 3 3 then 1#8 <<< (s.codeQ.extractLsb' 0 3).toNat else 0
        bitIdx := 0, phase := .bitData }) ∧
  (∀ s : State, exec .frameB5 s = .next
    { s with shreg := 0xFF#8 ^^^ (1#8 <<< s.activeDigit.toNat), bitIdx := 0, phase := .bitData })

/-- SELBYTE_GROUP_0 to _4 load a byte of a code of their group (the model's choice, log entry 9). -/
def Obligations.SelectGroupRowsLoadTheirByte : Prop :=
  ∀ (bit : BitVec 3) (r : Instr × BitVec 3),
    r ∈ [(Instr.selbyteGroup0 bit, 0), (.selbyteGroup1 bit, 1), (.selbyteGroup2 bit, 2), (.selbyteGroup3 bit, 3),
      (.selbyteGroup4 bit, 4)] → ∀ s : State,
    exec r.1 s = .next
      { s with shreg := if s.byteIdx = r.2 then 1#8 <<< bit.toNat else 0, bitIdx := 0, phase := .bitData }

/-- DIGSEL_0 to DIGSEL_7 load FE FD FB F7 EF DF BF 7F (the model's choice, log entry 9). -/
def Obligations.DigitRowsLoadTheirByte : Prop :=
  ∀ (r : Instr × Byte),
    r ∈ [(Instr.digsel0, 0xFE), (.digsel1, 0xFD), (.digsel2, 0xFB), (.digsel3, 0xF7), (.digsel4, 0xEF),
      (.digsel5, 0xDF), (.digsel6, 0xBF), (.digsel7, 0x7F)] → ∀ s : State,
    exec r.1 s = .next { s with shreg := r.2, bitIdx := 0, phase := .bitData }

/-- SHIFT_OUT_BYTE: eight data and clock pulses, low bit first; the chain moves eight places; no latch. That shreg ends
at 0 and phase and counters stay is log entry 13; the stage order is decision D16. -/
def Obligations.ShiftOutByteSendsEightBits : Prop :=
  ∀ (v : Byte) (s : State), s.srClk = false → exec (.shiftOutByte v) s = .next
    { s with
      srData := v.getLsbD 7, srClk := false, shreg := 0
      sh := (s.sh <<< 8) ||| v.reverse.setWidth 48
      trace := s.trace ++ (List.range 8).flatMap fun j => [.data (v.getLsbD j), .clkUp, .hold, .clkDown] }

/-- SET_DATA writes the low bit to the data line, then halves shreg. -/
def Obligations.SetDataSendsTheLowBit : Prop :=
  ∀ s : State, exec .setData s = .next
    { s with
      srData := s.shreg.getLsbD 0, shreg := s.shreg >>> 1, phase := .bitClkHi
      trace := s.trace ++ [.data (s.shreg.getLsbD 0)] }

/-- CLK_RISE from a low clock line raises it, and the receiver shifts on it (decision D16). -/
def Obligations.ClkRiseShiftsTheChain : Prop :=
  ∀ s : State, s.srClk = false → ∃ sh' : Chain,
    exec .clkRise s = .next { s with srClk := true, sh := sh', phase := .bitHold, trace := s.trace ++ [.clkUp] } ∧
    sh'.getLsbD 0 = s.srData ∧ ∀ n < 47, sh'.getLsbD (n + 1) = s.sh.getLsbD n

/-- HOLD changes no register and no line but the phase; IDLE_WAIT changes nothing (decisions D1, D9). -/
def Obligations.WaitingOperationsOnlyWait : Prop :=
  (∀ (p q : Phase),
    (p, q) ∈ [(Phase.bitHold, Phase.bitClkLo), (.latPre, .latHi), (.latHold, .latLo), (.latPost, .sample)] →
    ∀ s : State, s.phase = p → exec .hold s = .next { s with phase := q, trace := s.trace ++ [.hold] }) ∧
  (∀ s : State, exec .idleWait s = .next s)

/-- CLK_FALL lowers the clock line and goes to the next bit, the next byte or the latch. -/
def Obligations.ClkFallControlsTheLoops : Prop :=
  ∀ s : State,
    (s.bitIdx ≠ 7 → exec .clkFall s = .next
      { s with srClk := false, trace := s.trace ++ [.clkDown], bitIdx := s.bitIdx + 1, phase := .bitData }) ∧
    (s.bitIdx = 7 → s.byteIdx ≠ 5 → exec .clkFall s = .next
      { s with srClk := false, trace := s.trace ++ [.clkDown], byteIdx := s.byteIdx + 1, phase := .load }) ∧
    (s.bitIdx = 7 → s.byteIdx = 5 → exec .clkFall s = .next
      { s with srClk := false, trace := s.trace ++ [.clkDown], phase := .latPre })

/-- LATCH_PULSE: hold, raise, hold, lower, hold; the output stage takes the shift stage (decision D16). That
phase and counters stay is log entry 13. -/
def Obligations.LatchPulseShowsTheChain : Prop :=
  ∀ s : State, s.srLatch = false → exec .latchPulse s = .next
    { s with
      srLatch := false, out := s.sh
      trace := s.trace ++ [.hold, .latchUp, .hold, .latchDown, .hold] }

/-- LATCH_RISE and LATCH_FALL as micro-operations; a high line gives no edge (decisions D1, D9, D16; log entry 10). -/
def Obligations.LatchEdgesTakeOneCycleEach : Prop :=
  (∀ s : State, s.srLatch = false → exec .latchRise s = .next
    { s with srLatch := true, out := s.sh, phase := .latHold, trace := s.trace ++ [.latchUp] }) ∧
  (∀ s : State, exec .latchFall s = .next
    { s with srLatch := false, phase := .latPost, trace := s.trace ++ [.latchDown] }) ∧
  (∀ s : State, s.srLatch = true →
    exec .latchRise s = .next { s with phase := .latHold, trace := s.trace ++ [.latchUp] }) ∧
  (∀ s : State, s.srClk = true →
    exec .clkRise s = .next { s with phase := .bitHold, trace := s.trace ++ [.clkUp] })

/-- BTN_SAMPLE reads the line once; a pressed sample is accumulated by BTN_MODE. -/
def Obligations.ButtonIsSampledOnce : Prop :=
  ∀ s : State, ∃ u : State,
    exec .btnSample s = .next { u with phase := .advance } ∧
    (s.inputs.btnN = true → u = { s with trace := s.trace ++ [.btn true] }) ∧
    (s.inputs.btnN = false → s.btnMode = .count →
      exec .accCount { s with trace := s.trace ++ [.btn false] } = .next u) ∧
    (s.inputs.btnN = false → s.btnMode = .bitmask →
      exec (.accBitmask s.activeDigit) { s with trace := s.trace ++ [.btn false] } = .next u)

/-- ACC_COUNT adds one, ACC_BITMASK sets the bit of its digit, PUBLISH copies and clears (decisions D11, D12, D13). -/
def Obligations.ButtonPartsTouchTheirRegisters : Prop :=
  (∀ s : State, exec .accCount s = .next { s with btnAcc := s.btnAcc + 1 }) ∧
  (∀ (d : Digit) (s : State), ∃ a : Byte,
    exec (.accBitmask d) s = .next { s with btnAcc := a } ∧
    ∀ j < 8, a.getLsbD j = (s.btnAcc.getLsbD j || decide (j = d.toNat))) ∧
  (∀ s : State, exec .publish s = .next { s with pattern := s.btnAcc, btnAcc := 0 })

/-- ADVANCE: the next digit modulo 8; from digit 7 the accumulator is published and cleared; phase IDLE. -/
def Obligations.AdvanceGoesToTheNextDigit : Prop :=
  (∀ s : State, s.activeDigit = 7 → exec .advance s = .next
    { s with activeDigit := 0, pattern := s.btnAcc, btnAcc := 0, phase := .idle }) ∧
  (∀ s : State, s.activeDigit ≠ 7 → exec .advance s = .next
    { s with activeDigit := s.activeDigit + 1, phase := .idle })

/-- SR_SHIFT: every stage takes its neighbour, stage 0 the data line (decision D16). -/
def Obligations.ChainShiftsOnePlace : Prop :=
  ∀ s : State, ∃ sh' : Chain,
    exec .srShift s = .next { s with sh := sh' } ∧
    sh'.getLsbD 0 = s.srData ∧ ∀ n < 47, sh'.getLsbD (n + 1) = s.sh.getLsbD n

/-- SR_LATCH: the output stage takes all 48 bits of the shift stage at once. -/
def Obligations.ChainLatchesAtOnce : Prop :=
  ∀ s : State, ∃ out' : Chain,
    exec .srLatch s = .next { s with out := out' } ∧ ∀ n < 48, out'.getLsbD n = s.sh.getLsbD n

/-- ROM_READ: the word of the one high ROW line, else any value, fresh (readout: log entry 8; free value: log entry 4). -/
def Obligations.RomReadSelectsTheOneHotWord : Prop :=
  (∀ (s : State) (k : Fin 40), (∀ j < 40, (s.out.getLsbD (47 - j) = true ↔ j = k.val)) →
    exec .romRead s = .next { s with readout := .mask (Config.font k) }) ∧
  (∀ s : State, (¬ ∃ k < 40, ∀ j < 40, (s.out.getLsbD (47 - j) = true ↔ j = k)) →
    exec .romRead s = .next { s with readout := .mask (Config.romFloating s.cycle s.draws), draws := s.draws + 1 })

/-- DIGIT_DRIVE: digit j is enabled exactly while DIG_N[j], the output stage 7 - j, is 0 (readout: log entry 8). -/
def Obligations.LowDigitLinesEnable : Prop :=
  ∀ s : State, ∃ e : Byte,
    exec .digitDrive s = .next { s with readout := .digits e } ∧
    ∀ j < 8, (e.getLsbD j = true ↔ s.out.getLsbD (7 - j) = false)

/-- READ_PATTERN, READ_TICK and the format reads give the registers and change none; the reader reads its four ports in any
cycle (log entries 2, 8, 9). -/
def Obligations.ReadersReadTheRegisters : Prop :=
  ∀ s : State,
    exec .readPattern s = .next { s with readout := .byte s.pattern } ∧
    exec .readTick s = .next { s with readout := .byte s.tickPub } ∧
    exec .tickInt s = .next { s with readout := .word s.tickInt } ∧
    exec .tickPub s = .next { s with readout := .byte s.tickPub } ∧
    (s.btnMode = .count →
      exec .pattern8Count s = .next { s with readout := .count s.pattern } ∧
      exec .pattern8Bitmask s = .next { s with readout := .otherFormat }) ∧
    (s.btnMode = .bitmask →
      exec .pattern8Count s = .next { s with readout := .otherFormat } ∧
      exec .pattern8Bitmask s = .next { s with readout := .pressed s.pattern }) ∧
    (s.nextAct = .observe .pattern →
      step s = .next { s with readout := .byte s.pattern, script := s.script.tail }) ∧
    (s.nextAct = .observe .tick →
      step s = .next { s with readout := .byte s.tickPub, script := s.script.tail }) ∧
    (s.nextAct = .observe .activeDigit →
      step s = .next { s with readout := .digit s.activeDigit, script := s.script.tail }) ∧
    (s.nextAct = .observe .busy →
      step s = .next { s with readout := .level (decide (s.phase ≠ .idle)), script := s.script.tail })

/-- A stored font word has bits 15 and 14 equal to 0, and reading it gives its 14 segments (log entries 8, 9). -/
def Obligations.StoredMasksKeepReservedBitsZero : Prop :=
  (∀ c : Code, (fontWord c).getLsbD 15 = false ∧ (fontWord c).getLsbD 14 = false ∧
    decode .mask16 (fontWord c).toNat = .ok (.mask16 (fontMask c))) ∧
  (∀ (m : Mask) (s : State), exec (.mask16 m) s = .next { s with readout := .mask m })

/-- RESET puts every clocked register to its reset value and leaves the chain (decisions D10, D21). -/
def Obligations.ResetTakesEveryClockedRegister : Prop :=
  ∀ s : State, exec .reset s = .next
    { s with
      activeDigit := 0, btnAcc := 0, pattern := 0, tickInt := 0, tickPub := 0, tickPend := false
      srData := false, srClk := false, srLatch := false, phase := .idle, byteIdx := 0, bitIdx := 0
      shreg := 0, codeQ := 10 }

/-- The state after reset holds the reset values of the table (decisions D10, D11). -/
def Obligations.MachineStartsInTheResetState : Prop :=
  State.reset.activeDigit = 0 ∧ State.reset.btnAcc = 0 ∧ State.reset.pattern = 0 ∧ State.reset.tickInt = 0 ∧
  State.reset.tickPub = 0 ∧ State.reset.tickPend = false ∧ State.reset.srData = false ∧
  State.reset.srClk = false ∧ State.reset.srLatch = false ∧ State.reset.phase = .idle ∧
  State.reset.byteIdx = 0 ∧ State.reset.bitIdx = 0 ∧ State.reset.shreg = 0 ∧ State.reset.codeQ = 10 ∧
  State.reset.btnMode = .count

/-- No operation faults and none is refused (decision D27). -/
def Obligations.NoOperationStops : Prop :=
  ∀ (i : Instr) (s : State), ∃ t, exec i s = .next t

/-- A step runs the operation its word decodes to: the code at accept, the digit byte at LOAD, a stored mask (log
entries 2, 9). -/
def Obligations.StepRunsTheDecodedWord : Prop :=
  (∀ (s t : State) (inp : Inputs) (i : Instr),
    s.nextAct = .cycle inp → inp.rst = false → s.phase = .idle → s.tickPend = true →
    decode .code6 inp.charCode.toNat = .ok i → exec i s = .next t →
    step s = .next
      { t with tickPend := t.tickPend || inp.tick, script := s.script.tail, cycle := s.cycle + 1 }) ∧
  (∀ (s t : State) (inp : Inputs) (i : Instr),
    s.nextAct = .cycle inp → inp.rst = false → s.phase = .load → s.byteIdx = 5 →
    decode .digsel (digsel s.activeDigit).toNat = .ok i → exec i s = .next t →
    step s = .next
      { t with tickPend := t.tickPend || inp.tick, script := s.script.tail, cycle := s.cycle + 1 }) ∧
  (∀ (s t : State) (w : BitVec 16) (i : Instr),
    s.nextAct = .observe (.storedMask w) → decode .mask16 w.toNat = .ok i → exec i s = .next t →
    step s = .next { t with script := s.script.tail })

/-- A table word that is placed is what the very next step runs (the model's interface, log entry 14). -/
def Obligations.PlacedWordRunsNext : Prop :=
  ∀ (s : State) (nbits w : Nat) (i : Instr), decodeTableWord nbits w = some i → ∃ u : State,
    exec i (s.withFetchWord nbits w) = .next u ∧
    step (s.withFetchWord nbits w) = .next
      { u with script := s.script, cycle := if nbits = 16 then s.cycle else s.cycle + 1 }

/-- In each cycle without reset the block performs the operation of its phase (decisions D1, D9). -/
def Obligations.SequencerRunsItsPhase : Prop :=
  ∀ (s t : State) (inp : Inputs) (i : Instr), s.nextAct = .cycle inp → inp.rst = false →
    ((s.phase = .idle ∧ i = if s.tickPend then .accept else .idleWait) ∨
      (s.phase, i) ∈ [(Phase.load, Instr.load), (.bitData, .setData), (.bitClkHi, .clkRise), (.bitHold, .hold),
        (.bitClkLo, .clkFall), (.latPre, .hold), (.latHi, .latchRise), (.latHold, .hold), (.latLo, .latchFall),
        (.latPost, .hold), (.sample, .btnSample), (.advance, .advance)]) →
    exec i s = .next t →
    step s = .next
      { t with tickPend := t.tickPend || inp.tick, script := s.script.tail, cycle := s.cycle + 1 }

/-- A cycle with rst high is a reset, in every phase; a tick in it is discarded; the display stays (D10, D21). -/
def Obligations.ResetWinsOverEverything : Prop :=
  ∀ (s : State) (inp : Inputs), s.nextAct = .cycle inp → inp.rst = true → step s = .next
    { s with
      activeDigit := 0, btnAcc := 0, pattern := 0, tickInt := 0, tickPub := 0, tickPend := false
      srData := false, srClk := false, srLatch := false, phase := .idle, byteIdx := 0, bitIdx := 0
      shreg := 0, codeQ := 10
      script := s.script.tail, cycle := s.cycle + 1 }

/-- tick_pend: a pulse sets it and wins, an acceptance clears it, else it stays (decisions D3, D4). -/
def Obligations.PendingFlagFollowsItsLaw : Prop :=
  ∀ (s t : State) (inp : Inputs), s.nextAct = .cycle inp → inp.rst = false → step s = .next t →
    t.tickPend =
      if inp.tick then true else if s.phase = .idle ∧ s.tickPend = true then false else s.tickPend

/-- An observer reads and writes nothing: only the readout and the draw counter move (decisions D14, D15; log entries 2,
8). -/
def Obligations.ObservationsChangeNothing : Prop :=
  ∀ (s t : State) (o : Observation), s.nextAct = .observe o → step s = .next t →
    t = { s with readout := t.readout, draws := t.draws, script := s.script.tail }

/-- A stored word with bit 15 or 14 set is no valid font word and is refused (log entry 15). -/
def Obligations.ReservedMaskBitsAreRefused : Prop :=
  ∀ (s : State) (w : BitVec 16), s.nextAct = .observe (.storedMask w) →
    (w.getLsbD 15 = true ∨ w.getLsbD 14 = true → step s = .refused .reservedMaskBits) ∧
    (w.getLsbD 15 = false → w.getLsbD 14 = false →
      step s = .next { s with readout := .mask (w.extractLsb' 0 14), script := s.script.tail })

/-- No ROW or DIG_N line changes but at a rising edge of the latch line. -/
def Obligations.LinesChangeOnlyAtTheLatch : Prop :=
  ∀ s t : State, step s = .next t →
    (rowLines t.out = rowLines s.out ∧ digNLines t.out = digNLines s.out) ∨
      (s.srLatch = false ∧ t.srLatch = true ∧ t.out = s.sh)

/-- pattern changes only at a wrap, tick_pub only at the accept of a 50th step, active_digit only at ADVANCE. -/
def Obligations.PublishedRegistersChangeOnlyInTheirCycle : Prop :=
  ∀ (s t : State) (inp : Inputs), s.nextAct = .cycle inp → inp.rst = false → step s = .next t →
    (t.pattern = if s.phase = .advance ∧ s.activeDigit = 7 then s.btnAcc else s.pattern) ∧
    (t.tickPub =
      if s.phase = .idle ∧ s.tickPend = true ∧ 49 < s.tickInt + 1 then s.tickPub + 1 else s.tickPub) ∧
    (t.activeDigit = if s.phase = .advance then s.activeDigit + 1 else s.activeDigit)

/-- char_code matters only in the accept cycle, btn_n only in the SAMPLE cycle (decisions D5, D24). -/
def Obligations.InputsMatterOnlyWhenRead : Prop :=
  ∀ (s : State) (inp : Inputs) (rest : List Act),
    (¬ (s.phase = .idle ∧ s.tickPend = true) → ∀ c : Code,
      step { s with script := .cycle inp :: rest } =
        step { s with script := .cycle { inp with charCode := c } :: rest }) ∧
    (s.phase ≠ .sample → ∀ b : Level,
      step { s with script := .cycle inp :: rest } =
        step { s with script := .cycle { inp with btnN := b } :: rest })

/-- Every step keeps the invariant of lines, counters and button bounds. -/
def Obligations.StepKeepsTheSequencerInvariant : Prop :=
  ∀ s t : State, Inv s → step s = .next t → Inv t

/-- Every step keeps: the bits sent so far of the frame stand in the chain, the rest in shreg and the data line. -/
def Obligations.StepKeepsTheChainInvariant : Prop :=
  ∀ s t : State, ScanInv s → step s = .next t → ScanInv t

/-- The state after reset meets the invariants of the sequencer and of the chain. -/
def Obligations.ResetMeetsTheInvariants : Prop :=
  ScanInv State.reset

/-- Once the output stage holds a whole frame it holds a whole frame for ever, across resets too. -/
def Obligations.DisplayStaysWhole : Prop :=
  ∀ s t : State, ScanInv s → DisplayWhole s → step s = .next t → DisplayWhole t

/-- The L+ of a step puts the frame of its code and digit on the lines, whatever the chain held before. -/
def Obligations.LatchShowsTheStepsFrame : Prop :=
  ∀ (s : State) (inp : Inputs), ScanInv s → s.phase = .latHi → s.nextAct = .cycle inp → inp.rst = false →
    ∃ t, step s = .next t ∧ latchedFrame t.out = frame48 s.codeQ s.activeDigit ∧
      (∀ k < 40, ((rowLines t.out).getLsbD k = true ↔ k = s.codeQ.toNat)) ∧
      (∀ j < 8, ((digNLines t.out).getLsbD j = false ↔ j = s.activeDigit.toNat))

/-- SCAN_STEP in closed form: 198 events, one frame latched, the button sampled, the digit advanced (log entry 13). -/
def Obligations.ScanStepInClosedForm : Prop :=
  ∀ (c : Code) (b : Level) (s : State), s.srClk = false → s.srLatch = false → ∃ acc : Byte,
    (acc = if b then s.btnAcc else match s.btnMode with
      | .count => s.btnAcc + 1
      | .bitmask => s.btnAcc ||| (1#8 <<< s.activeDigit.toNat)) ∧
    exec (.scanStep c b) s = .next
      { s with
        tickPend := false
        tickInt := if 49 < s.tickInt + 1 then 0 else s.tickInt + 1
        tickPub := if 49 < s.tickInt + 1 then s.tickPub + 1 else s.tickPub
        codeQ := if c.toNat ≤ 39 then c else 10
        shreg := 0, byteIdx := 5, bitIdx := 7, phase := .idle
        srData := decide (s.activeDigit ≠ 7), srClk := false, srLatch := false
        sh := (frame48 (if c.toNat ≤ 39 then c else 10) s.activeDigit).reverse
        out := (frame48 (if c.toNat ≤ 39 then c else 10) s.activeDigit).reverse
        activeDigit := if s.activeDigit = 7 then 0 else s.activeDigit + 1
        pattern := if s.activeDigit = 7 then acc else s.pattern
        btnAcc := if s.activeDigit = 7 then 0 else acc
        trace := s.trace ++ scanTrace (if c.toNat ≤ 39 then c else 10) s.activeDigit b }

/-- After a step the digit shown lights the font mask of its code and the other seven digits nothing. -/
def Obligations.DisplayShowsTheCharacter : Prop :=
  ∀ (c : Code) (b : Level) (s : State), s.srClk = false → s.srLatch = false →
    ∃ t, exec (.scanStep c b) s = .next t ∧
      ∀ j : Digit, t.shown j = if j = s.activeDigit then fontMask (if c.toNat ≤ 39 then c else 10) else 0

/-- From reset, step number n shows digit (n - 1) % 8, whatever the codes and the buttons. -/
def Obligations.StepNumberShowsItsDigit : Prop :=
  ∀ (lines : List (Code × Level)) (c : Code) (b : Level),
    ∃ t, runLines (lines ++ [(c, b)]) State.reset = .next t ∧
      (∀ j < 8, ((enabledDigits t.out).getLsbD j = true ↔ j = lines.length % 8)) ∧
      t.activeDigit.toNat = (lines.length + 1) % 8

/-- From reset, after n steps: digit n % 8, tick_int n % 50, tick_pub (n / 50) % 256, pattern the count of the last whole
cycle (mode COUNT, which reset holds). -/
def Obligations.CountersAfterSteps : Prop :=
  ∀ lines : List (Code × Level), ∃ t, runLines lines State.reset = .next t ∧
    t.activeDigit.toNat = lines.length % 8 ∧
    t.tickInt.toNat = lines.length % 50 ∧
    t.tickPub.toNat = lines.length / 50 % 256 ∧
    t.pattern.toNat =
      if lines.length < 8 then 0
      else ((lines.drop (8 * (lines.length / 8) - 8)).take 8).countP (fun l => l.2 == false)

/-- 206 cycles of the sequencer do exactly what the big step does: the same events, the same final state. For byte_idx,
bit_idx and shreg, which the big step of the spec does not name, the big step's values are the model's (log entry 13). -/
def Obligations.TheTwoGrainsAgree : Prop :=
  ∀ (s : State) (ins : List Inputs) (rest : List Act) (c : Code) (b : Level),
    s.phase = .idle → s.tickPend = true → s.script = ins.map .cycle ++ rest →
    ins.length = 206 → (∀ x ∈ ins, x.rst = false ∧ x.tick = false) →
    ins[0]?.map Inputs.charCode = some c → ins[204]?.map Inputs.btnN = some b →
    ∃ u, exec (.scanStep c b) s = .next u ∧
      runSteps 206 s = .next { u with script := rest, cycle := s.cycle + 206 }

/-- An accepted step completes in 206 cycles whatever the inputs; ticks during it merge into one pending tick. -/
def Obligations.AcceptedStepAlwaysCompletes : Prop :=
  ∀ (s : State) (ins : List Inputs) (rest : List Act),
    s.phase = .idle → s.tickPend = true → s.script = ins.map .cycle ++ rest →
    ins.length = 206 → (∀ x ∈ ins, x.rst = false) →
    ∃ t, runSteps 206 s = .next t ∧ t.phase = .idle ∧ t.tickPend = ins.any Inputs.tick ∧
      t.activeDigit = s.activeDigit + 1 ∧
      t.tickInt = (if 49 < s.tickInt + 1 then 0 else s.tickInt + 1) ∧
      t.script = rest

/-- Within a step: busy in cycles 2 to 206, the first event in cycle 3, C+ of position k in cycle 4 + 4k + k/8, L+ in 201,
B? in 205 (decision D9). Each event is absent one cycle before, and is the one event of its cycle. -/
def Obligations.StepKeepsItsTimetable : Prop :=
  ∀ (s : State) (ins : List Inputs) (rest : List Act),
    s.phase = .idle → s.tickPend = true → s.script = ins.map .cycle ++ rest →
    ins.length = 206 → (∀ x ∈ ins, x.rst = false) →
    (∀ n, 1 ≤ n → n ≤ 205 → ∃ t, runSteps n s = .next t ∧ t.busy = true ∧
      t.activeDigit = s.activeDigit ∧ t.pattern = s.pattern) ∧
    (∃ t u b, runSteps 2 s = .next t ∧ t.trace = s.trace ∧
      runSteps 3 s = .next u ∧ u.trace = s.trace ++ [.data b]) ∧
    (∀ k < 48, ∃ t u es, runSteps (3 + 4 * k + k / 8) s = .next t ∧ t.trace = s.trace ++ es ∧
      runSteps (4 + 4 * k + k / 8) s = .next u ∧ u.trace = s.trace ++ es ++ [.clkUp] ∧
      es.count .clkUp = k) ∧
    (∃ t u es, runSteps 200 s = .next t ∧ t.trace = s.trace ++ es ∧
      runSteps 201 s = .next u ∧ u.trace = s.trace ++ es ++ [.latchUp] ∧ Event.latchUp ∉ es) ∧
    (∃ t u es b, runSteps 204 s = .next t ∧ t.trace = s.trace ++ es ∧
      runSteps 205 s = .next u ∧ u.trace = s.trace ++ es ++ [.btn b] ∧
      ins[204]?.map Inputs.btnN = some b ∧ ∀ b', Event.btn b' ∉ es) ∧
    (∃ t u, runSteps 205 s = .next t ∧ runSteps 206 s = .next u ∧ u.trace = t.trace ∧ u.busy = false)

/-- In mode BITMASK a scan cycle publishes, at its end and no sooner, one bit for each digit: set if and only if the sample
taken while that digit was shown read pressed (decisions D12, D13). -/
def Obligations.BitmaskCyclePublishesItsSamples : Prop :=
  ∀ (s : State) (lines : List (Code × Level)), s.btnMode = .bitmask → s.srClk = false → s.srLatch = false →
    s.activeDigit = 0 → s.btnAcc = 0 → lines.length = 8 →
    (∀ d < 8, ∃ u, runLines (lines.take (d + 1)) s = .next u ∧
      (∀ j < 8, ((enabledDigits u.out).getLsbD j = true ↔ j = d)) ∧ (d < 7 → u.pattern = s.pattern)) ∧
    ∃ t, runLines lines s = .next t ∧ t.activeDigit = 0 ∧ t.btnAcc = 0 ∧
      ∀ d < 8, (t.pattern.getLsbD d = true ↔ lines[d]?.map Prod.snd = some false)
end

