-- ==== Sys2Proof/Laws/State.lean ====
section
/-! SUPPORT. What each plain update of the state does to each field, true by definition. -/

namespace Sys2Proof.Machine

variable (s : State)

@[simp] theorem emit_activeDigit (e : Event) : (emit e s).activeDigit = s.activeDigit := rfl
@[simp] theorem emit_btnAcc (e : Event) : (emit e s).btnAcc = s.btnAcc := rfl
@[simp] theorem emit_pattern (e : Event) : (emit e s).pattern = s.pattern := rfl
@[simp] theorem emit_tickInt (e : Event) : (emit e s).tickInt = s.tickInt := rfl
@[simp] theorem emit_tickPub (e : Event) : (emit e s).tickPub = s.tickPub := rfl
@[simp] theorem emit_tickPend (e : Event) : (emit e s).tickPend = s.tickPend := rfl
@[simp] theorem emit_srData (e : Event) : (emit e s).srData = s.srData := rfl
@[simp] theorem emit_srClk (e : Event) : (emit e s).srClk = s.srClk := rfl
@[simp] theorem emit_srLatch (e : Event) : (emit e s).srLatch = s.srLatch := rfl
@[simp] theorem emit_phase (e : Event) : (emit e s).phase = s.phase := rfl
@[simp] theorem emit_byteIdx (e : Event) : (emit e s).byteIdx = s.byteIdx := rfl
@[simp] theorem emit_bitIdx (e : Event) : (emit e s).bitIdx = s.bitIdx := rfl
@[simp] theorem emit_shreg (e : Event) : (emit e s).shreg = s.shreg := rfl
@[simp] theorem emit_codeQ (e : Event) : (emit e s).codeQ = s.codeQ := rfl
@[simp] theorem emit_sh (e : Event) : (emit e s).sh = s.sh := rfl
@[simp] theorem emit_out (e : Event) : (emit e s).out = s.out := rfl
@[simp] theorem emit_btnMode (e : Event) : (emit e s).btnMode = s.btnMode := rfl
@[simp] theorem emit_trace (e : Event) : (emit e s).trace = s.trace ++ [e] := rfl
@[simp] theorem emit_script (e : Event) : (emit e s).script = s.script := rfl
@[simp] theorem emit_cycle (e : Event) : (emit e s).cycle = s.cycle := rfl
@[simp] theorem emit_draws (e : Event) : (emit e s).draws = s.draws := rfl
@[simp] theorem emit_readout (e : Event) : (emit e s).readout = s.readout := rfl

@[simp] theorem writeData_activeDigit (b : Level) : (writeData b s).activeDigit = s.activeDigit := rfl
@[simp] theorem writeData_btnAcc (b : Level) : (writeData b s).btnAcc = s.btnAcc := rfl
@[simp] theorem writeData_pattern (b : Level) : (writeData b s).pattern = s.pattern := rfl
@[simp] theorem writeData_tickInt (b : Level) : (writeData b s).tickInt = s.tickInt := rfl
@[simp] theorem writeData_tickPub (b : Level) : (writeData b s).tickPub = s.tickPub := rfl
@[simp] theorem writeData_tickPend (b : Level) : (writeData b s).tickPend = s.tickPend := rfl
@[simp] theorem writeData_srData (b : Level) : (writeData b s).srData = b := rfl
@[simp] theorem writeData_srClk (b : Level) : (writeData b s).srClk = s.srClk := rfl
@[simp] theorem writeData_srLatch (b : Level) : (writeData b s).srLatch = s.srLatch := rfl
@[simp] theorem writeData_phase (b : Level) : (writeData b s).phase = s.phase := rfl
@[simp] theorem writeData_byteIdx (b : Level) : (writeData b s).byteIdx = s.byteIdx := rfl
@[simp] theorem writeData_bitIdx (b : Level) : (writeData b s).bitIdx = s.bitIdx := rfl
@[simp] theorem writeData_shreg (b : Level) : (writeData b s).shreg = s.shreg := rfl
@[simp] theorem writeData_codeQ (b : Level) : (writeData b s).codeQ = s.codeQ := rfl
@[simp] theorem writeData_sh (b : Level) : (writeData b s).sh = s.sh := rfl
@[simp] theorem writeData_out (b : Level) : (writeData b s).out = s.out := rfl
@[simp] theorem writeData_btnMode (b : Level) : (writeData b s).btnMode = s.btnMode := rfl
@[simp] theorem writeData_trace (b : Level) : (writeData b s).trace = s.trace ++ [.data b] := rfl
@[simp] theorem writeData_script (b : Level) : (writeData b s).script = s.script := rfl
@[simp] theorem writeData_cycle (b : Level) : (writeData b s).cycle = s.cycle := rfl
@[simp] theorem writeData_draws (b : Level) : (writeData b s).draws = s.draws := rfl
@[simp] theorem writeData_readout (b : Level) : (writeData b s).readout = s.readout := rfl

@[simp] theorem shiftChain_activeDigit : (shiftChain s).activeDigit = s.activeDigit := rfl
@[simp] theorem shiftChain_btnAcc : (shiftChain s).btnAcc = s.btnAcc := rfl
@[simp] theorem shiftChain_pattern : (shiftChain s).pattern = s.pattern := rfl
@[simp] theorem shiftChain_tickInt : (shiftChain s).tickInt = s.tickInt := rfl
@[simp] theorem shiftChain_tickPub : (shiftChain s).tickPub = s.tickPub := rfl
@[simp] theorem shiftChain_tickPend : (shiftChain s).tickPend = s.tickPend := rfl
@[simp] theorem shiftChain_srData : (shiftChain s).srData = s.srData := rfl
@[simp] theorem shiftChain_srClk : (shiftChain s).srClk = s.srClk := rfl
@[simp] theorem shiftChain_srLatch : (shiftChain s).srLatch = s.srLatch := rfl
@[simp] theorem shiftChain_phase : (shiftChain s).phase = s.phase := rfl
@[simp] theorem shiftChain_byteIdx : (shiftChain s).byteIdx = s.byteIdx := rfl
@[simp] theorem shiftChain_bitIdx : (shiftChain s).bitIdx = s.bitIdx := rfl
@[simp] theorem shiftChain_shreg : (shiftChain s).shreg = s.shreg := rfl
@[simp] theorem shiftChain_codeQ : (shiftChain s).codeQ = s.codeQ := rfl
@[simp] theorem shiftChain_sh : (shiftChain s).sh = s.sh.shiftConcat s.srData := rfl
@[simp] theorem shiftChain_out : (shiftChain s).out = s.out := rfl
@[simp] theorem shiftChain_btnMode : (shiftChain s).btnMode = s.btnMode := rfl
@[simp] theorem shiftChain_trace : (shiftChain s).trace = s.trace := rfl
@[simp] theorem shiftChain_script : (shiftChain s).script = s.script := rfl
@[simp] theorem shiftChain_cycle : (shiftChain s).cycle = s.cycle := rfl
@[simp] theorem shiftChain_draws : (shiftChain s).draws = s.draws := rfl
@[simp] theorem shiftChain_readout : (shiftChain s).readout = s.readout := rfl

@[simp] theorem latchChain_activeDigit : (latchChain s).activeDigit = s.activeDigit := rfl
@[simp] theorem latchChain_btnAcc : (latchChain s).btnAcc = s.btnAcc := rfl
@[simp] theorem latchChain_pattern : (latchChain s).pattern = s.pattern := rfl
@[simp] theorem latchChain_tickInt : (latchChain s).tickInt = s.tickInt := rfl
@[simp] theorem latchChain_tickPub : (latchChain s).tickPub = s.tickPub := rfl
@[simp] theorem latchChain_tickPend : (latchChain s).tickPend = s.tickPend := rfl
@[simp] theorem latchChain_srData : (latchChain s).srData = s.srData := rfl
@[simp] theorem latchChain_srClk : (latchChain s).srClk = s.srClk := rfl
@[simp] theorem latchChain_srLatch : (latchChain s).srLatch = s.srLatch := rfl
@[simp] theorem latchChain_phase : (latchChain s).phase = s.phase := rfl
@[simp] theorem latchChain_byteIdx : (latchChain s).byteIdx = s.byteIdx := rfl
@[simp] theorem latchChain_bitIdx : (latchChain s).bitIdx = s.bitIdx := rfl
@[simp] theorem latchChain_shreg : (latchChain s).shreg = s.shreg := rfl
@[simp] theorem latchChain_codeQ : (latchChain s).codeQ = s.codeQ := rfl
@[simp] theorem latchChain_sh : (latchChain s).sh = s.sh := rfl
@[simp] theorem latchChain_out : (latchChain s).out = s.sh := rfl
@[simp] theorem latchChain_btnMode : (latchChain s).btnMode = s.btnMode := rfl
@[simp] theorem latchChain_trace : (latchChain s).trace = s.trace := rfl
@[simp] theorem latchChain_script : (latchChain s).script = s.script := rfl
@[simp] theorem latchChain_cycle : (latchChain s).cycle = s.cycle := rfl
@[simp] theorem latchChain_draws : (latchChain s).draws = s.draws := rfl
@[simp] theorem latchChain_readout : (latchChain s).readout = s.readout := rfl

@[simp] theorem lowerClk_activeDigit : (lowerClk s).activeDigit = s.activeDigit := rfl
@[simp] theorem lowerClk_btnAcc : (lowerClk s).btnAcc = s.btnAcc := rfl
@[simp] theorem lowerClk_pattern : (lowerClk s).pattern = s.pattern := rfl
@[simp] theorem lowerClk_tickInt : (lowerClk s).tickInt = s.tickInt := rfl
@[simp] theorem lowerClk_tickPub : (lowerClk s).tickPub = s.tickPub := rfl
@[simp] theorem lowerClk_tickPend : (lowerClk s).tickPend = s.tickPend := rfl
@[simp] theorem lowerClk_srData : (lowerClk s).srData = s.srData := rfl
@[simp] theorem lowerClk_srClk : (lowerClk s).srClk = false := rfl
@[simp] theorem lowerClk_srLatch : (lowerClk s).srLatch = s.srLatch := rfl
@[simp] theorem lowerClk_phase : (lowerClk s).phase = s.phase := rfl
@[simp] theorem lowerClk_byteIdx : (lowerClk s).byteIdx = s.byteIdx := rfl
@[simp] theorem lowerClk_bitIdx : (lowerClk s).bitIdx = s.bitIdx := rfl
@[simp] theorem lowerClk_shreg : (lowerClk s).shreg = s.shreg := rfl
@[simp] theorem lowerClk_codeQ : (lowerClk s).codeQ = s.codeQ := rfl
@[simp] theorem lowerClk_sh : (lowerClk s).sh = s.sh := rfl
@[simp] theorem lowerClk_out : (lowerClk s).out = s.out := rfl
@[simp] theorem lowerClk_btnMode : (lowerClk s).btnMode = s.btnMode := rfl
@[simp] theorem lowerClk_trace : (lowerClk s).trace = s.trace ++ [.clkDown] := rfl
@[simp] theorem lowerClk_script : (lowerClk s).script = s.script := rfl
@[simp] theorem lowerClk_cycle : (lowerClk s).cycle = s.cycle := rfl
@[simp] theorem lowerClk_draws : (lowerClk s).draws = s.draws := rfl
@[simp] theorem lowerClk_readout : (lowerClk s).readout = s.readout := rfl

@[simp] theorem lowerLatch_activeDigit : (lowerLatch s).activeDigit = s.activeDigit := rfl
@[simp] theorem lowerLatch_btnAcc : (lowerLatch s).btnAcc = s.btnAcc := rfl
@[simp] theorem lowerLatch_pattern : (lowerLatch s).pattern = s.pattern := rfl
@[simp] theorem lowerLatch_tickInt : (lowerLatch s).tickInt = s.tickInt := rfl
@[simp] theorem lowerLatch_tickPub : (lowerLatch s).tickPub = s.tickPub := rfl
@[simp] theorem lowerLatch_tickPend : (lowerLatch s).tickPend = s.tickPend := rfl
@[simp] theorem lowerLatch_srData : (lowerLatch s).srData = s.srData := rfl
@[simp] theorem lowerLatch_srClk : (lowerLatch s).srClk = s.srClk := rfl
@[simp] theorem lowerLatch_srLatch : (lowerLatch s).srLatch = false := rfl
@[simp] theorem lowerLatch_phase : (lowerLatch s).phase = s.phase := rfl
@[simp] theorem lowerLatch_byteIdx : (lowerLatch s).byteIdx = s.byteIdx := rfl
@[simp] theorem lowerLatch_bitIdx : (lowerLatch s).bitIdx = s.bitIdx := rfl
@[simp] theorem lowerLatch_shreg : (lowerLatch s).shreg = s.shreg := rfl
@[simp] theorem lowerLatch_codeQ : (lowerLatch s).codeQ = s.codeQ := rfl
@[simp] theorem lowerLatch_sh : (lowerLatch s).sh = s.sh := rfl
@[simp] theorem lowerLatch_out : (lowerLatch s).out = s.out := rfl
@[simp] theorem lowerLatch_btnMode : (lowerLatch s).btnMode = s.btnMode := rfl
@[simp] theorem lowerLatch_trace : (lowerLatch s).trace = s.trace ++ [.latchDown] := rfl
@[simp] theorem lowerLatch_script : (lowerLatch s).script = s.script := rfl
@[simp] theorem lowerLatch_cycle : (lowerLatch s).cycle = s.cycle := rfl
@[simp] theorem lowerLatch_draws : (lowerLatch s).draws = s.draws := rfl
@[simp] theorem lowerLatch_readout : (lowerLatch s).readout = s.readout := rfl

@[simp] theorem holdLines_activeDigit : (holdLines s).activeDigit = s.activeDigit := rfl
@[simp] theorem holdLines_btnAcc : (holdLines s).btnAcc = s.btnAcc := rfl
@[simp] theorem holdLines_pattern : (holdLines s).pattern = s.pattern := rfl
@[simp] theorem holdLines_tickInt : (holdLines s).tickInt = s.tickInt := rfl
@[simp] theorem holdLines_tickPub : (holdLines s).tickPub = s.tickPub := rfl
@[simp] theorem holdLines_tickPend : (holdLines s).tickPend = s.tickPend := rfl
@[simp] theorem holdLines_srData : (holdLines s).srData = s.srData := rfl
@[simp] theorem holdLines_srClk : (holdLines s).srClk = s.srClk := rfl
@[simp] theorem holdLines_srLatch : (holdLines s).srLatch = s.srLatch := rfl
@[simp] theorem holdLines_phase : (holdLines s).phase = s.phase := rfl
@[simp] theorem holdLines_byteIdx : (holdLines s).byteIdx = s.byteIdx := rfl
@[simp] theorem holdLines_bitIdx : (holdLines s).bitIdx = s.bitIdx := rfl
@[simp] theorem holdLines_shreg : (holdLines s).shreg = s.shreg := rfl
@[simp] theorem holdLines_codeQ : (holdLines s).codeQ = s.codeQ := rfl
@[simp] theorem holdLines_sh : (holdLines s).sh = s.sh := rfl
@[simp] theorem holdLines_out : (holdLines s).out = s.out := rfl
@[simp] theorem holdLines_btnMode : (holdLines s).btnMode = s.btnMode := rfl
@[simp] theorem holdLines_trace : (holdLines s).trace = s.trace ++ [.hold] := rfl
@[simp] theorem holdLines_script : (holdLines s).script = s.script := rfl
@[simp] theorem holdLines_cycle : (holdLines s).cycle = s.cycle := rfl
@[simp] theorem holdLines_draws : (holdLines s).draws = s.draws := rfl
@[simp] theorem holdLines_readout : (holdLines s).readout = s.readout := rfl

@[simp] theorem sendLowBit_activeDigit : (sendLowBit s).activeDigit = s.activeDigit := rfl
@[simp] theorem sendLowBit_btnAcc : (sendLowBit s).btnAcc = s.btnAcc := rfl
@[simp] theorem sendLowBit_pattern : (sendLowBit s).pattern = s.pattern := rfl
@[simp] theorem sendLowBit_tickInt : (sendLowBit s).tickInt = s.tickInt := rfl
@[simp] theorem sendLowBit_tickPub : (sendLowBit s).tickPub = s.tickPub := rfl
@[simp] theorem sendLowBit_tickPend : (sendLowBit s).tickPend = s.tickPend := rfl
@[simp] theorem sendLowBit_srData : (sendLowBit s).srData = s.shreg.getLsbD 0 := rfl
@[simp] theorem sendLowBit_srClk : (sendLowBit s).srClk = s.srClk := rfl
@[simp] theorem sendLowBit_srLatch : (sendLowBit s).srLatch = s.srLatch := rfl
@[simp] theorem sendLowBit_phase : (sendLowBit s).phase = s.phase := rfl
@[simp] theorem sendLowBit_byteIdx : (sendLowBit s).byteIdx = s.byteIdx := rfl
@[simp] theorem sendLowBit_bitIdx : (sendLowBit s).bitIdx = s.bitIdx := rfl
@[simp] theorem sendLowBit_shreg : (sendLowBit s).shreg = s.shreg >>> 1 := rfl
@[simp] theorem sendLowBit_codeQ : (sendLowBit s).codeQ = s.codeQ := rfl
@[simp] theorem sendLowBit_sh : (sendLowBit s).sh = s.sh := rfl
@[simp] theorem sendLowBit_out : (sendLowBit s).out = s.out := rfl
@[simp] theorem sendLowBit_btnMode : (sendLowBit s).btnMode = s.btnMode := rfl
@[simp] theorem sendLowBit_trace : (sendLowBit s).trace = s.trace ++ [.data (s.shreg.getLsbD 0)] := rfl
@[simp] theorem sendLowBit_script : (sendLowBit s).script = s.script := rfl
@[simp] theorem sendLowBit_cycle : (sendLowBit s).cycle = s.cycle := rfl
@[simp] theorem sendLowBit_draws : (sendLowBit s).draws = s.draws := rfl
@[simp] theorem sendLowBit_readout : (sendLowBit s).readout = s.readout := rfl

@[simp] theorem countPress_activeDigit : (countPress s).activeDigit = s.activeDigit := rfl
@[simp] theorem countPress_btnAcc : (countPress s).btnAcc = s.btnAcc + 1 := rfl
@[simp] theorem countPress_pattern : (countPress s).pattern = s.pattern := rfl
@[simp] theorem countPress_tickInt : (countPress s).tickInt = s.tickInt := rfl
@[simp] theorem countPress_tickPub : (countPress s).tickPub = s.tickPub := rfl
@[simp] theorem countPress_tickPend : (countPress s).tickPend = s.tickPend := rfl
@[simp] theorem countPress_srData : (countPress s).srData = s.srData := rfl
@[simp] theorem countPress_srClk : (countPress s).srClk = s.srClk := rfl
@[simp] theorem countPress_srLatch : (countPress s).srLatch = s.srLatch := rfl
@[simp] theorem countPress_phase : (countPress s).phase = s.phase := rfl
@[simp] theorem countPress_byteIdx : (countPress s).byteIdx = s.byteIdx := rfl
@[simp] theorem countPress_bitIdx : (countPress s).bitIdx = s.bitIdx := rfl
@[simp] theorem countPress_shreg : (countPress s).shreg = s.shreg := rfl
@[simp] theorem countPress_codeQ : (countPress s).codeQ = s.codeQ := rfl
@[simp] theorem countPress_sh : (countPress s).sh = s.sh := rfl
@[simp] theorem countPress_out : (countPress s).out = s.out := rfl
@[simp] theorem countPress_btnMode : (countPress s).btnMode = s.btnMode := rfl
@[simp] theorem countPress_trace : (countPress s).trace = s.trace := rfl
@[simp] theorem countPress_script : (countPress s).script = s.script := rfl
@[simp] theorem countPress_cycle : (countPress s).cycle = s.cycle := rfl
@[simp] theorem countPress_draws : (countPress s).draws = s.draws := rfl
@[simp] theorem countPress_readout : (countPress s).readout = s.readout := rfl

@[simp] theorem markPress_activeDigit (d : Digit) : (markPress d s).activeDigit = s.activeDigit := rfl
@[simp] theorem markPress_btnAcc (d : Digit) : (markPress d s).btnAcc = s.btnAcc ||| (1#8 <<< d.toNat) := rfl
@[simp] theorem markPress_pattern (d : Digit) : (markPress d s).pattern = s.pattern := rfl
@[simp] theorem markPress_tickInt (d : Digit) : (markPress d s).tickInt = s.tickInt := rfl
@[simp] theorem markPress_tickPub (d : Digit) : (markPress d s).tickPub = s.tickPub := rfl
@[simp] theorem markPress_tickPend (d : Digit) : (markPress d s).tickPend = s.tickPend := rfl
@[simp] theorem markPress_srData (d : Digit) : (markPress d s).srData = s.srData := rfl
@[simp] theorem markPress_srClk (d : Digit) : (markPress d s).srClk = s.srClk := rfl
@[simp] theorem markPress_srLatch (d : Digit) : (markPress d s).srLatch = s.srLatch := rfl
@[simp] theorem markPress_phase (d : Digit) : (markPress d s).phase = s.phase := rfl
@[simp] theorem markPress_byteIdx (d : Digit) : (markPress d s).byteIdx = s.byteIdx := rfl
@[simp] theorem markPress_bitIdx (d : Digit) : (markPress d s).bitIdx = s.bitIdx := rfl
@[simp] theorem markPress_shreg (d : Digit) : (markPress d s).shreg = s.shreg := rfl
@[simp] theorem markPress_codeQ (d : Digit) : (markPress d s).codeQ = s.codeQ := rfl
@[simp] theorem markPress_sh (d : Digit) : (markPress d s).sh = s.sh := rfl
@[simp] theorem markPress_out (d : Digit) : (markPress d s).out = s.out := rfl
@[simp] theorem markPress_btnMode (d : Digit) : (markPress d s).btnMode = s.btnMode := rfl
@[simp] theorem markPress_trace (d : Digit) : (markPress d s).trace = s.trace := rfl
@[simp] theorem markPress_script (d : Digit) : (markPress d s).script = s.script := rfl
@[simp] theorem markPress_cycle (d : Digit) : (markPress d s).cycle = s.cycle := rfl
@[simp] theorem markPress_draws (d : Digit) : (markPress d s).draws = s.draws := rfl
@[simp] theorem markPress_readout (d : Digit) : (markPress d s).readout = s.readout := rfl

@[simp] theorem publishButtons_activeDigit : (publishButtons s).activeDigit = s.activeDigit := rfl
@[simp] theorem publishButtons_btnAcc : (publishButtons s).btnAcc = 0 := rfl
@[simp] theorem publishButtons_pattern : (publishButtons s).pattern = s.btnAcc := rfl
@[simp] theorem publishButtons_tickInt : (publishButtons s).tickInt = s.tickInt := rfl
@[simp] theorem publishButtons_tickPub : (publishButtons s).tickPub = s.tickPub := rfl
@[simp] theorem publishButtons_tickPend : (publishButtons s).tickPend = s.tickPend := rfl
@[simp] theorem publishButtons_srData : (publishButtons s).srData = s.srData := rfl
@[simp] theorem publishButtons_srClk : (publishButtons s).srClk = s.srClk := rfl
@[simp] theorem publishButtons_srLatch : (publishButtons s).srLatch = s.srLatch := rfl
@[simp] theorem publishButtons_phase : (publishButtons s).phase = s.phase := rfl
@[simp] theorem publishButtons_byteIdx : (publishButtons s).byteIdx = s.byteIdx := rfl
@[simp] theorem publishButtons_bitIdx : (publishButtons s).bitIdx = s.bitIdx := rfl
@[simp] theorem publishButtons_shreg : (publishButtons s).shreg = s.shreg := rfl
@[simp] theorem publishButtons_codeQ : (publishButtons s).codeQ = s.codeQ := rfl
@[simp] theorem publishButtons_sh : (publishButtons s).sh = s.sh := rfl
@[simp] theorem publishButtons_out : (publishButtons s).out = s.out := rfl
@[simp] theorem publishButtons_btnMode : (publishButtons s).btnMode = s.btnMode := rfl
@[simp] theorem publishButtons_trace : (publishButtons s).trace = s.trace := rfl
@[simp] theorem publishButtons_script : (publishButtons s).script = s.script := rfl
@[simp] theorem publishButtons_cycle : (publishButtons s).cycle = s.cycle := rfl
@[simp] theorem publishButtons_draws : (publishButtons s).draws = s.draws := rfl
@[simp] theorem publishButtons_readout : (publishButtons s).readout = s.readout := rfl

@[simp] theorem takeCode_activeDigit (c : Code) : (takeCode c s).activeDigit = s.activeDigit := rfl
@[simp] theorem takeCode_btnAcc (c : Code) : (takeCode c s).btnAcc = s.btnAcc := rfl
@[simp] theorem takeCode_pattern (c : Code) : (takeCode c s).pattern = s.pattern := rfl
@[simp] theorem takeCode_tickInt (c : Code) : (takeCode c s).tickInt = s.tickInt := rfl
@[simp] theorem takeCode_tickPub (c : Code) : (takeCode c s).tickPub = s.tickPub := rfl
@[simp] theorem takeCode_tickPend (c : Code) : (takeCode c s).tickPend = s.tickPend := rfl
@[simp] theorem takeCode_srData (c : Code) : (takeCode c s).srData = s.srData := rfl
@[simp] theorem takeCode_srClk (c : Code) : (takeCode c s).srClk = s.srClk := rfl
@[simp] theorem takeCode_srLatch (c : Code) : (takeCode c s).srLatch = s.srLatch := rfl
@[simp] theorem takeCode_phase (c : Code) : (takeCode c s).phase = s.phase := rfl
@[simp] theorem takeCode_byteIdx (c : Code) : (takeCode c s).byteIdx = s.byteIdx := rfl
@[simp] theorem takeCode_bitIdx (c : Code) : (takeCode c s).bitIdx = s.bitIdx := rfl
@[simp] theorem takeCode_shreg (c : Code) : (takeCode c s).shreg = s.shreg := rfl
@[simp] theorem takeCode_codeQ (c : Code) : (takeCode c s).codeQ = clampCode c := rfl
@[simp] theorem takeCode_sh (c : Code) : (takeCode c s).sh = s.sh := rfl
@[simp] theorem takeCode_out (c : Code) : (takeCode c s).out = s.out := rfl
@[simp] theorem takeCode_btnMode (c : Code) : (takeCode c s).btnMode = s.btnMode := rfl
@[simp] theorem takeCode_trace (c : Code) : (takeCode c s).trace = s.trace := rfl
@[simp] theorem takeCode_script (c : Code) : (takeCode c s).script = s.script := rfl
@[simp] theorem takeCode_cycle (c : Code) : (takeCode c s).cycle = s.cycle := rfl
@[simp] theorem takeCode_draws (c : Code) : (takeCode c s).draws = s.draws := rfl
@[simp] theorem takeCode_readout (c : Code) : (takeCode c s).readout = s.readout := rfl

@[simp] theorem returnFromStep_activeDigit : (returnFromStep s).activeDigit = s.activeDigit := rfl
@[simp] theorem returnFromStep_btnAcc : (returnFromStep s).btnAcc = s.btnAcc := rfl
@[simp] theorem returnFromStep_pattern : (returnFromStep s).pattern = s.pattern := rfl
@[simp] theorem returnFromStep_tickInt : (returnFromStep s).tickInt = s.tickInt := rfl
@[simp] theorem returnFromStep_tickPub : (returnFromStep s).tickPub = s.tickPub := rfl
@[simp] theorem returnFromStep_tickPend : (returnFromStep s).tickPend = s.tickPend := rfl
@[simp] theorem returnFromStep_srData : (returnFromStep s).srData = s.srData := rfl
@[simp] theorem returnFromStep_srClk : (returnFromStep s).srClk = s.srClk := rfl
@[simp] theorem returnFromStep_srLatch : (returnFromStep s).srLatch = s.srLatch := rfl
@[simp] theorem returnFromStep_phase : (returnFromStep s).phase = .idle := rfl
@[simp] theorem returnFromStep_byteIdx : (returnFromStep s).byteIdx = s.byteIdx := rfl
@[simp] theorem returnFromStep_bitIdx : (returnFromStep s).bitIdx = s.bitIdx := rfl
@[simp] theorem returnFromStep_shreg : (returnFromStep s).shreg = s.shreg := rfl
@[simp] theorem returnFromStep_codeQ : (returnFromStep s).codeQ = s.codeQ := rfl
@[simp] theorem returnFromStep_sh : (returnFromStep s).sh = s.sh := rfl
@[simp] theorem returnFromStep_out : (returnFromStep s).out = s.out := rfl
@[simp] theorem returnFromStep_btnMode : (returnFromStep s).btnMode = s.btnMode := rfl
@[simp] theorem returnFromStep_trace : (returnFromStep s).trace = s.trace := rfl
@[simp] theorem returnFromStep_script : (returnFromStep s).script = s.script := rfl
@[simp] theorem returnFromStep_cycle : (returnFromStep s).cycle = s.cycle := rfl
@[simp] theorem returnFromStep_draws : (returnFromStep s).draws = s.draws := rfl
@[simp] theorem returnFromStep_readout : (returnFromStep s).readout = s.readout := rfl

@[simp] theorem loadByte_activeDigit (v : Byte) : (loadByte v s).activeDigit = s.activeDigit := rfl
@[simp] theorem loadByte_btnAcc (v : Byte) : (loadByte v s).btnAcc = s.btnAcc := rfl
@[simp] theorem loadByte_pattern (v : Byte) : (loadByte v s).pattern = s.pattern := rfl
@[simp] theorem loadByte_tickInt (v : Byte) : (loadByte v s).tickInt = s.tickInt := rfl
@[simp] theorem loadByte_tickPub (v : Byte) : (loadByte v s).tickPub = s.tickPub := rfl
@[simp] theorem loadByte_tickPend (v : Byte) : (loadByte v s).tickPend = s.tickPend := rfl
@[simp] theorem loadByte_srData (v : Byte) : (loadByte v s).srData = s.srData := rfl
@[simp] theorem loadByte_srClk (v : Byte) : (loadByte v s).srClk = s.srClk := rfl
@[simp] theorem loadByte_srLatch (v : Byte) : (loadByte v s).srLatch = s.srLatch := rfl
@[simp] theorem loadByte_phase (v : Byte) : (loadByte v s).phase = .bitData := rfl
@[simp] theorem loadByte_byteIdx (v : Byte) : (loadByte v s).byteIdx = s.byteIdx := rfl
@[simp] theorem loadByte_bitIdx (v : Byte) : (loadByte v s).bitIdx = 0 := rfl
@[simp] theorem loadByte_shreg (v : Byte) : (loadByte v s).shreg = v := rfl
@[simp] theorem loadByte_codeQ (v : Byte) : (loadByte v s).codeQ = s.codeQ := rfl
@[simp] theorem loadByte_sh (v : Byte) : (loadByte v s).sh = s.sh := rfl
@[simp] theorem loadByte_out (v : Byte) : (loadByte v s).out = s.out := rfl
@[simp] theorem loadByte_btnMode (v : Byte) : (loadByte v s).btnMode = s.btnMode := rfl
@[simp] theorem loadByte_trace (v : Byte) : (loadByte v s).trace = s.trace := rfl
@[simp] theorem loadByte_script (v : Byte) : (loadByte v s).script = s.script := rfl
@[simp] theorem loadByte_cycle (v : Byte) : (loadByte v s).cycle = s.cycle := rfl
@[simp] theorem loadByte_draws (v : Byte) : (loadByte v s).draws = s.draws := rfl
@[simp] theorem loadByte_readout (v : Byte) : (loadByte v s).readout = s.readout := rfl

@[simp] theorem endCounters_activeDigit : (endCounters s).activeDigit = s.activeDigit := rfl
@[simp] theorem endCounters_btnAcc : (endCounters s).btnAcc = s.btnAcc := rfl
@[simp] theorem endCounters_pattern : (endCounters s).pattern = s.pattern := rfl
@[simp] theorem endCounters_tickInt : (endCounters s).tickInt = s.tickInt := rfl
@[simp] theorem endCounters_tickPub : (endCounters s).tickPub = s.tickPub := rfl
@[simp] theorem endCounters_tickPend : (endCounters s).tickPend = s.tickPend := rfl
@[simp] theorem endCounters_srData : (endCounters s).srData = s.srData := rfl
@[simp] theorem endCounters_srClk : (endCounters s).srClk = s.srClk := rfl
@[simp] theorem endCounters_srLatch : (endCounters s).srLatch = s.srLatch := rfl
@[simp] theorem endCounters_phase : (endCounters s).phase = s.phase := rfl
@[simp] theorem endCounters_byteIdx : (endCounters s).byteIdx = 5 := rfl
@[simp] theorem endCounters_bitIdx : (endCounters s).bitIdx = 7 := rfl
@[simp] theorem endCounters_shreg : (endCounters s).shreg = s.shreg := rfl
@[simp] theorem endCounters_codeQ : (endCounters s).codeQ = s.codeQ := rfl
@[simp] theorem endCounters_sh : (endCounters s).sh = s.sh := rfl
@[simp] theorem endCounters_out : (endCounters s).out = s.out := rfl
@[simp] theorem endCounters_btnMode : (endCounters s).btnMode = s.btnMode := rfl
@[simp] theorem endCounters_trace : (endCounters s).trace = s.trace := rfl
@[simp] theorem endCounters_script : (endCounters s).script = s.script := rfl
@[simp] theorem endCounters_cycle : (endCounters s).cycle = s.cycle := rfl
@[simp] theorem endCounters_draws : (endCounters s).draws = s.draws := rfl
@[simp] theorem endCounters_readout : (endCounters s).readout = s.readout := rfl

@[simp] theorem resetClocked_activeDigit : (resetClocked s).activeDigit = 0 := rfl
@[simp] theorem resetClocked_btnAcc : (resetClocked s).btnAcc = 0 := rfl
@[simp] theorem resetClocked_pattern : (resetClocked s).pattern = 0 := rfl
@[simp] theorem resetClocked_tickInt : (resetClocked s).tickInt = 0 := rfl
@[simp] theorem resetClocked_tickPub : (resetClocked s).tickPub = 0 := rfl
@[simp] theorem resetClocked_tickPend : (resetClocked s).tickPend = false := rfl
@[simp] theorem resetClocked_srData : (resetClocked s).srData = false := rfl
@[simp] theorem resetClocked_srClk : (resetClocked s).srClk = false := rfl
@[simp] theorem resetClocked_srLatch : (resetClocked s).srLatch = false := rfl
@[simp] theorem resetClocked_phase : (resetClocked s).phase = .idle := rfl
@[simp] theorem resetClocked_byteIdx : (resetClocked s).byteIdx = 0 := rfl
@[simp] theorem resetClocked_bitIdx : (resetClocked s).bitIdx = 0 := rfl
@[simp] theorem resetClocked_shreg : (resetClocked s).shreg = 0 := rfl
@[simp] theorem resetClocked_codeQ : (resetClocked s).codeQ = 10 := rfl
@[simp] theorem resetClocked_sh : (resetClocked s).sh = s.sh := rfl
@[simp] theorem resetClocked_out : (resetClocked s).out = s.out := rfl
@[simp] theorem resetClocked_btnMode : (resetClocked s).btnMode = s.btnMode := rfl
@[simp] theorem resetClocked_trace : (resetClocked s).trace = s.trace := rfl
@[simp] theorem resetClocked_script : (resetClocked s).script = s.script := rfl
@[simp] theorem resetClocked_cycle : (resetClocked s).cycle = s.cycle := rfl
@[simp] theorem resetClocked_draws : (resetClocked s).draws = s.draws := rfl
@[simp] theorem resetClocked_readout : (resetClocked s).readout = s.readout := rfl

@[simp] theorem answer_activeDigit (r : Readout) : (answer r s).activeDigit = s.activeDigit := rfl
@[simp] theorem answer_btnAcc (r : Readout) : (answer r s).btnAcc = s.btnAcc := rfl
@[simp] theorem answer_pattern (r : Readout) : (answer r s).pattern = s.pattern := rfl
@[simp] theorem answer_tickInt (r : Readout) : (answer r s).tickInt = s.tickInt := rfl
@[simp] theorem answer_tickPub (r : Readout) : (answer r s).tickPub = s.tickPub := rfl
@[simp] theorem answer_tickPend (r : Readout) : (answer r s).tickPend = s.tickPend := rfl
@[simp] theorem answer_srData (r : Readout) : (answer r s).srData = s.srData := rfl
@[simp] theorem answer_srClk (r : Readout) : (answer r s).srClk = s.srClk := rfl
@[simp] theorem answer_srLatch (r : Readout) : (answer r s).srLatch = s.srLatch := rfl
@[simp] theorem answer_phase (r : Readout) : (answer r s).phase = s.phase := rfl
@[simp] theorem answer_byteIdx (r : Readout) : (answer r s).byteIdx = s.byteIdx := rfl
@[simp] theorem answer_bitIdx (r : Readout) : (answer r s).bitIdx = s.bitIdx := rfl
@[simp] theorem answer_shreg (r : Readout) : (answer r s).shreg = s.shreg := rfl
@[simp] theorem answer_codeQ (r : Readout) : (answer r s).codeQ = s.codeQ := rfl
@[simp] theorem answer_sh (r : Readout) : (answer r s).sh = s.sh := rfl
@[simp] theorem answer_out (r : Readout) : (answer r s).out = s.out := rfl
@[simp] theorem answer_btnMode (r : Readout) : (answer r s).btnMode = s.btnMode := rfl
@[simp] theorem answer_trace (r : Readout) : (answer r s).trace = s.trace := rfl
@[simp] theorem answer_script (r : Readout) : (answer r s).script = s.script := rfl
@[simp] theorem answer_cycle (r : Readout) : (answer r s).cycle = s.cycle := rfl
@[simp] theorem answer_draws (r : Readout) : (answer r s).draws = s.draws := rfl
@[simp] theorem answer_readout (r : Readout) : (answer r s).readout = r := rfl

@[simp] theorem endCycle_activeDigit (inp : Inputs) : (endCycle inp s).activeDigit = s.activeDigit := rfl
@[simp] theorem endCycle_btnAcc (inp : Inputs) : (endCycle inp s).btnAcc = s.btnAcc := rfl
@[simp] theorem endCycle_pattern (inp : Inputs) : (endCycle inp s).pattern = s.pattern := rfl
@[simp] theorem endCycle_tickInt (inp : Inputs) : (endCycle inp s).tickInt = s.tickInt := rfl
@[simp] theorem endCycle_tickPub (inp : Inputs) : (endCycle inp s).tickPub = s.tickPub := rfl
@[simp] theorem endCycle_tickPend (inp : Inputs) : (endCycle inp s).tickPend = (if inp.rst then s.tickPend else s.tickPend || inp.tick) := rfl
@[simp] theorem endCycle_srData (inp : Inputs) : (endCycle inp s).srData = s.srData := rfl
@[simp] theorem endCycle_srClk (inp : Inputs) : (endCycle inp s).srClk = s.srClk := rfl
@[simp] theorem endCycle_srLatch (inp : Inputs) : (endCycle inp s).srLatch = s.srLatch := rfl
@[simp] theorem endCycle_phase (inp : Inputs) : (endCycle inp s).phase = s.phase := rfl
@[simp] theorem endCycle_byteIdx (inp : Inputs) : (endCycle inp s).byteIdx = s.byteIdx := rfl
@[simp] theorem endCycle_bitIdx (inp : Inputs) : (endCycle inp s).bitIdx = s.bitIdx := rfl
@[simp] theorem endCycle_shreg (inp : Inputs) : (endCycle inp s).shreg = s.shreg := rfl
@[simp] theorem endCycle_codeQ (inp : Inputs) : (endCycle inp s).codeQ = s.codeQ := rfl
@[simp] theorem endCycle_sh (inp : Inputs) : (endCycle inp s).sh = s.sh := rfl
@[simp] theorem endCycle_out (inp : Inputs) : (endCycle inp s).out = s.out := rfl
@[simp] theorem endCycle_btnMode (inp : Inputs) : (endCycle inp s).btnMode = s.btnMode := rfl
@[simp] theorem endCycle_trace (inp : Inputs) : (endCycle inp s).trace = s.trace := rfl
@[simp] theorem endCycle_script (inp : Inputs) : (endCycle inp s).script = s.script.tail := rfl
@[simp] theorem endCycle_cycle (inp : Inputs) : (endCycle inp s).cycle = s.cycle + 1 := rfl
@[simp] theorem endCycle_draws (inp : Inputs) : (endCycle inp s).draws = s.draws := rfl
@[simp] theorem endCycle_readout (inp : Inputs) : (endCycle inp s).readout = s.readout := rfl

@[simp] theorem endObservation_activeDigit : (endObservation s).activeDigit = s.activeDigit := rfl
@[simp] theorem endObservation_btnAcc : (endObservation s).btnAcc = s.btnAcc := rfl
@[simp] theorem endObservation_pattern : (endObservation s).pattern = s.pattern := rfl
@[simp] theorem endObservation_tickInt : (endObservation s).tickInt = s.tickInt := rfl
@[simp] theorem endObservation_tickPub : (endObservation s).tickPub = s.tickPub := rfl
@[simp] theorem endObservation_tickPend : (endObservation s).tickPend = s.tickPend := rfl
@[simp] theorem endObservation_srData : (endObservation s).srData = s.srData := rfl
@[simp] theorem endObservation_srClk : (endObservation s).srClk = s.srClk := rfl
@[simp] theorem endObservation_srLatch : (endObservation s).srLatch = s.srLatch := rfl
@[simp] theorem endObservation_phase : (endObservation s).phase = s.phase := rfl
@[simp] theorem endObservation_byteIdx : (endObservation s).byteIdx = s.byteIdx := rfl
@[simp] theorem endObservation_bitIdx : (endObservation s).bitIdx = s.bitIdx := rfl
@[simp] theorem endObservation_shreg : (endObservation s).shreg = s.shreg := rfl
@[simp] theorem endObservation_codeQ : (endObservation s).codeQ = s.codeQ := rfl
@[simp] theorem endObservation_sh : (endObservation s).sh = s.sh := rfl
@[simp] theorem endObservation_out : (endObservation s).out = s.out := rfl
@[simp] theorem endObservation_btnMode : (endObservation s).btnMode = s.btnMode := rfl
@[simp] theorem endObservation_trace : (endObservation s).trace = s.trace := rfl
@[simp] theorem endObservation_script : (endObservation s).script = s.script.tail := rfl
@[simp] theorem endObservation_cycle : (endObservation s).cycle = s.cycle := rfl
@[simp] theorem endObservation_draws : (endObservation s).draws = s.draws := rfl
@[simp] theorem endObservation_readout : (endObservation s).readout = s.readout := rfl

end Sys2Proof.Machine
end

