-- ==== Sys2Proof/Laws/Ops.lean ====
section
/-! SUPPORT. One statement for each shared operation of everything it does, for proofs to cite instead of unfolding it. -/

namespace Sys2Proof.Machine

/-- A clamped code is legal. -/
theorem clampCode_lt (c : Code) : (clampCode c).toNat < 40 := by
  unfold clampCode
  split
  · assumption
  · decide

theorem clampCode_of_legal {c : Code} (h : c.toNat < 40) : clampCode c = c := if_pos h

theorem clampCode_of_reserved {c : Code} (h : 40 ≤ c.toNat) : clampCode c = 10 :=
  if_neg (Nat.not_lt.mpr h)

/-- The tick condition as a proposition (rule R130). -/
@[simp] theorem tickOver_iff (t : BitVec 16) : tickOver t = true ↔ 49 < t + 1 := decide_eq_true_iff

/-- The wrap condition as a proposition (rule R96). -/
@[simp] theorem wraps_iff (d : Digit) : wraps d = true ↔ d = 7 := by
  revert d
  decide

/-- From a low clock line, the line rises and the chain shifts. -/
theorem raiseClk_of_low {s : State} (h : s.srClk = false) :
    raiseClk s = { s with srClk := true, sh := s.sh.shiftConcat s.srData, trace := s.trace ++ [.clkUp] } := by
  simp [raiseClk, h, emit, shiftChain]

/-- From a high clock line there is no edge. -/
theorem raiseClk_of_high {s : State} (h : s.srClk = true) : raiseClk s = emit .clkUp s := by
  simp [raiseClk, h]

/-- From a low latch line, the line rises and the output stage copies the shift stage. -/
theorem raiseLatch_of_low {s : State} (h : s.srLatch = false) :
    raiseLatch s = { s with srLatch := true, out := s.sh, trace := s.trace ++ [.latchUp] } := by
  simp [raiseLatch, h, emit, latchChain]

/-- From a high latch line there is no edge. -/
theorem raiseLatch_of_high {s : State} (h : s.srLatch = true) : raiseLatch s = emit .latchUp s := by
  simp [raiseLatch, h]

/-- One pass of the loop of a byte: a bit is presented, clocked in, and the clock is low again. -/
theorem pulseClock_sendLowBit {s : State} (h : s.srClk = false) :
    pulseClock (sendLowBit s) =
      { s with
        srData := s.shreg.getLsbD 0, shreg := s.shreg >>> 1, srClk := false
        sh := s.sh.shiftConcat (s.shreg.getLsbD 0)
        trace := s.trace ++ [.data (s.shreg.getLsbD 0), .clkUp, .hold, .clkDown] } := by
  have hl : (sendLowBit s).srClk = false := by simp [h]
  rw [pulseClock, raiseClk_of_low hl]
  simp [holdLines, lowerClk, sendLowBit, writeData, emit]

/-- The whole latch pulse from a low latch line. -/
theorem pulseLatch_of_low {s : State} (h : s.srLatch = false) :
    pulseLatch s =
      { s with
        srLatch := false, out := s.sh
        trace := s.trace ++ [.hold, .latchUp, .hold, .latchDown, .hold] } := by
  have hl : (holdLines s).srLatch = false := by simp [h]
  rw [pulseLatch, raiseLatch_of_low hl]
  simp [holdLines, lowerLatch, emit]

/-- The tick counter touches nothing but its two registers. -/
theorem countTick_eq (s : State) :
    countTick s =
      { s with
        tickInt := if tickOver s.tickInt then 0 else s.tickInt + 1
        tickPub := if tickOver s.tickInt then s.tickPub + 1 else s.tickPub } := by
  unfold countTick
  split <;> simp [*]

/-- A sample touches nothing but the accumulator and the trace. -/
theorem sampleButton_eq (b : Level) (s : State) :
    sampleButton b s =
      { s with
        trace := s.trace ++ [.btn b]
        btnAcc :=
          if b then s.btnAcc
          else match s.btnMode with
            | .count => s.btnAcc + 1
            | .bitmask => s.btnAcc ||| (1#8 <<< s.activeDigit.toNat) } := by
  cases b <;> simp only [sampleButton, pressed, accumulate, emit] <;> cases s.btnMode <;> rfl

/-- The advance touches nothing but the digit, the two button registers and the phase. -/
theorem advanceDigit_eq (s : State) :
    advanceDigit s =
      { s with
        phase := .idle
        activeDigit := if wraps s.activeDigit then 0 else s.activeDigit + 1
        pattern := if wraps s.activeDigit then s.btnAcc else s.pattern
        btnAcc := if wraps s.activeDigit then 0 else s.btnAcc } := by
  unfold advanceDigit
  split <;> simp [*, returnFromStep, publishButtons]

/-- The loop control touches nothing but the two counters and the phase. -/
theorem nextBit_eq (s : State) :
    nextBit s =
      { s with
        bitIdx := if s.bitIdx ≠ 7 then s.bitIdx + 1 else s.bitIdx
        byteIdx := if s.bitIdx = 7 ∧ s.byteIdx ≠ 5 then s.byteIdx + 1 else s.byteIdx
        phase := if s.bitIdx ≠ 7 then .bitData else if s.byteIdx ≠ 5 then .load else .latPre } := by
  unfold nextBit
  split
  · simp_all
  · split <;> simp_all

/-- Entry to a step. -/
theorem enterStep_eq (c : Code) (s : State) :
    enterStep c s =
      { s with
        tickPend := false, codeQ := clampCode c, byteIdx := 0, phase := .load
        tickInt := if tickOver s.tickInt then 0 else s.tickInt + 1
        tickPub := if tickOver s.tickInt then s.tickPub + 1 else s.tickPub } := by
  simp [enterStep, countTick_eq, takeCode]

end Sys2Proof.Machine
end

