-- ==== Sys2Proof/Laws/Frames.lean ====
section
/-! SUPPORT. The composites in closed form: a byte, a frame and a whole step, each from low clock and latch lines. -/

namespace Sys2Proof.Machine

/-- Eight shifts of a chain: the byte stands in stages 0 to 7, its first bit at stage 7. -/
theorem chain_shift8 (x : Chain) (v : Byte) :
    (((((((x.shiftConcat (v.getLsbD 0)).shiftConcat (v.getLsbD 1)).shiftConcat (v.getLsbD 2)).shiftConcat
      (v.getLsbD 3)).shiftConcat (v.getLsbD 4)).shiftConcat (v.getLsbD 5)).shiftConcat (v.getLsbD 6)).shiftConcat
      (v.getLsbD 7) = (x <<< 8) ||| v.reverse.setWidth 48 := by
  apply BitVec.eq_of_getLsbD_eq
  intro i hi
  simp only [BitVec.getLsbD_shiftConcat, BitVec.getLsbD_or, BitVec.getLsbD_shiftLeft, BitVec.getLsbD_setWidth,
    BitVec.getLsbD_reverse, BitVec.getMsbD]
  by_cases h : i < 8
  · interval_cases i <;> simp
  · simp only [Nat.sub_sub, Nat.reduceAdd]
    have e : ∀ k < 8, i - k ≠ 0 ∧ i - k < 48 := by intro k hk; omega
    have e0 : i ≠ 0 := by omega
    simp [e0, hi, h, (e 1 (by omega)).1, (e 2 (by omega)).1, (e 3 (by omega)).1, (e 4 (by omega)).1,
      (e 5 (by omega)).1, (e 6 (by omega)).1, (e 7 (by omega)).1, (e 1 (by omega)).2, (e 2 (by omega)).2,
      (e 3 (by omega)).2, (e 4 (by omega)).2, (e 5 (by omega)).2, (e 6 (by omega)).2, (e 7 (by omega)).2]

/-- Six bytes fill the chain: nothing of what it held before is left (rule R143). -/
theorem chain_shift48 (x : Chain) (b0 b1 b2 b3 b4 b5 : Byte) :
    (((((((((((x <<< 8) ||| b0.reverse.setWidth 48) <<< 8) ||| b1.reverse.setWidth 48) <<< 8)
      ||| b2.reverse.setWidth 48) <<< 8) ||| b3.reverse.setWidth 48) <<< 8) ||| b4.reverse.setWidth 48) <<< 8)
      ||| b5.reverse.setWidth 48 = (b5 ++ b4 ++ b3 ++ b2 ++ b1 ++ b0 : Chain).reverse := by
  apply BitVec.eq_of_getLsbD_eq
  intro i hi
  simp only [BitVec.getLsbD_or, BitVec.getLsbD_shiftLeft, BitVec.getLsbD_setWidth, BitVec.getLsbD_reverse,
    BitVec.getMsbD, BitVec.getLsbD_append]
  interval_cases i <;> simp

/-- One pass of the loop, and the passes left. -/
theorem shiftBits_succ (n : Nat) {s : State} (h : s.srClk = false) :
    shiftBits (n + 1) s =
      shiftBits n
        { s with
          srData := s.shreg.getLsbD 0, shreg := s.shreg >>> 1, srClk := false
          sh := s.sh.shiftConcat (s.shreg.getLsbD 0)
          trace := s.trace ++ [.data (s.shreg.getLsbD 0), .clkUp, .hold, .clkDown] } := by
  rw [shiftBits, pulseClock_sendLowBit h]

/-- A byte shifted out, from a low clock line. -/
theorem shiftOut_of_low (v : Byte) {s : State} (h : s.srClk = false) :
    shiftOut v s =
      { s with
        srData := v.getLsbD 7, srClk := false, shreg := 0
        sh := (s.sh <<< 8) ||| v.reverse.setWidth 48
        trace := s.trace ++ byteTrace v } := by
  unfold shiftOut
  rw [shiftBits_succ 7 (by exact h), shiftBits_succ 6 (by rfl), shiftBits_succ 5 (by rfl), shiftBits_succ 4 (by rfl),
    shiftBits_succ 3 (by rfl), shiftBits_succ 2 (by rfl), shiftBits_succ 1 (by rfl), shiftBits_succ 0 (by rfl),
    shiftBits]
  have h8 : v >>> 1 >>> 1 >>> 1 >>> 1 >>> 1 >>> 1 >>> 1 >>> 1 = 0#8 := by
    apply BitVec.eq_of_getLsbD_eq
    intro i hi
    simp [BitVec.getLsbD_ushiftRight]
  simp only [BitVec.getLsbD_ushiftRight, Nat.reduceAdd, chain_shift8, h8, List.append_assoc, List.cons_append,
    List.nil_append]
  rfl

/-- A frame shifted out, from a low clock line: the chain holds the frame and nothing else. -/
theorem shiftFrame_of_low {s : State} (h : s.srClk = false) :
    shiftFrame s =
      { s with
        srData := decide (s.activeDigit ≠ 7), srClk := false, shreg := 0
        sh := (frame48 s.codeQ s.activeDigit).reverse
        trace := s.trace ++ (byteTrace (selbyte 0 s.codeQ) ++ byteTrace (selbyte 1 s.codeQ) ++
          byteTrace (selbyte 2 s.codeQ) ++ byteTrace (selbyte 3 s.codeQ) ++ byteTrace (selbyte 4 s.codeQ) ++
          byteTrace (digsel s.activeDigit)) } := by
  unfold shiftFrame
  dsimp only
  rw [shiftOut_of_low (frameByte 0 _ _) h]
  iterate 5 rw [shiftOut_of_low _ (by rfl)]
  simp only [List.append_assoc]
  congr 1
  · exact (show ∀ d : Digit, BitVec.getLsbD (digsel d) 7 = decide (d ≠ 7) by decide) s.activeDigit
  · exact chain_shift48 _ _ _ _ _ _ _

/-- A whole step up to its sample, from low clock and latch lines. -/
theorem scanOnce_of_low (c : Code) (b : Level) {s : State} (hc : s.srClk = false) (hl : s.srLatch = false) :
    scanOnce c b s =
      advanceDigit (sampleButton b
        { s with
          tickPend := false
          tickInt := if 49 < s.tickInt + 1 then 0 else s.tickInt + 1
          tickPub := if 49 < s.tickInt + 1 then s.tickPub + 1 else s.tickPub
          codeQ := clampCode c
          shreg := 0, byteIdx := 5, bitIdx := 7
          srData := decide (s.activeDigit ≠ 7), srClk := false, srLatch := false
          sh := (frame48 (clampCode c) s.activeDigit).reverse
          out := (frame48 (clampCode c) s.activeDigit).reverse
          trace := s.trace ++ (byteTrace (selbyte 0 (clampCode c)) ++ byteTrace (selbyte 1 (clampCode c)) ++
            byteTrace (selbyte 2 (clampCode c)) ++ byteTrace (selbyte 3 (clampCode c)) ++
            byteTrace (selbyte 4 (clampCode c)) ++ byteTrace (digsel s.activeDigit) ++
            [.hold, .latchUp, .hold, .latchDown, .hold]) }) := by
  have e : takeCode c (countTick { s with tickPend := false }) =
      { s with
        tickPend := false
        tickInt := if 49 < s.tickInt + 1 then 0 else s.tickInt + 1
        tickPub := if 49 < s.tickInt + 1 then s.tickPub + 1 else s.tickPub
        codeQ := clampCode c } := by simp [countTick_eq, takeCode]
  rw [scanOnce, e, shiftFrame_of_low (by exact hc), endCounters, pulseLatch_of_low (by exact hl)]
  simp only [List.append_assoc]

/-- What the receiver shows of a chain that holds a frame is the frame (rule R144). -/
theorem latchedFrame_reverse (f : Chain) : latchedFrame f.reverse = f := by simp [latchedFrame]

end Sys2Proof.Machine
end

