-- ==== Sys2Proof/Laws/PerInstr.lean ====
section
/-! SUPPORT. Statements about every operation as syntax, one lemma for each constructor. -/

namespace Sys2Proof.Laws.EncodeFits

/-- The bit pattern of an operation, where it has one, fits its format's width. -/
def Statement (i : Instr) : Prop := ∀ f w, encode i = some (f, w) → w < 2 ^ f.width

theorem scanStep (cIn : Code) (b : Level) : Statement (.scanStep cIn b) := nofun
theorem accept : Statement .accept := nofun
theorem idleWait : Statement .idleWait := nofun
theorem tickCount : Statement .tickCount := nofun
theorem clamp (cIn : Code) : Statement (.clamp cIn) := nofun
theorem fontLookup (c : Code) : Statement (.fontLookup c) := nofun
theorem charSelect (i : BitVec 3) (c : Code) : Statement (.charSelect i c) := nofun
theorem digitSelect (d : Digit) : Statement (.digitSelect d) := nofun
theorem load : Statement .load := nofun
theorem shiftOutByte (v : Byte) : Statement (.shiftOutByte v) := nofun
theorem setData : Statement .setData := nofun
theorem clkRise : Statement .clkRise := nofun
theorem hold : Statement .hold := nofun
theorem clkFall : Statement .clkFall := nofun
theorem latchPulse : Statement .latchPulse := nofun
theorem latchRise : Statement .latchRise := nofun
theorem latchFall : Statement .latchFall := nofun
theorem btnSample : Statement .btnSample := nofun
theorem accCount : Statement .accCount := nofun
theorem accBitmask (d : Digit) : Statement (.accBitmask d) := nofun
theorem advance : Statement .advance := nofun
theorem publish : Statement .publish := nofun
theorem srShift : Statement .srShift := nofun
theorem srLatch : Statement .srLatch := nofun
theorem romRead : Statement .romRead := nofun
theorem digitDrive : Statement .digitDrive := nofun
theorem readPattern : Statement .readPattern := nofun
theorem readTick : Statement .readTick := nofun
theorem reset : Statement .reset := nofun
theorem ch0 : Statement .ch0 := by rintro _ _ ⟨⟩; decide
theorem ch1 : Statement .ch1 := by rintro _ _ ⟨⟩; decide
theorem ch2 : Statement .ch2 := by rintro _ _ ⟨⟩; decide
theorem ch3 : Statement .ch3 := by rintro _ _ ⟨⟩; decide
theorem ch4 : Statement .ch4 := by rintro _ _ ⟨⟩; decide
theorem ch5 : Statement .ch5 := by rintro _ _ ⟨⟩; decide
theorem ch6 : Statement .ch6 := by rintro _ _ ⟨⟩; decide
theorem ch7 : Statement .ch7 := by rintro _ _ ⟨⟩; decide
theorem ch8 : Statement .ch8 := by rintro _ _ ⟨⟩; decide
theorem ch9 : Statement .ch9 := by rintro _ _ ⟨⟩; decide
theorem chSpace : Statement .chSpace := by rintro _ _ ⟨⟩; decide
theorem chA : Statement .chA := by rintro _ _ ⟨⟩; decide
theorem chB : Statement .chB := by rintro _ _ ⟨⟩; decide
theorem chC : Statement .chC := by rintro _ _ ⟨⟩; decide
theorem chD : Statement .chD := by rintro _ _ ⟨⟩; decide
theorem chE : Statement .chE := by rintro _ _ ⟨⟩; decide
theorem chF : Statement .chF := by rintro _ _ ⟨⟩; decide
theorem chG : Statement .chG := by rintro _ _ ⟨⟩; decide
theorem chH : Statement .chH := by rintro _ _ ⟨⟩; decide
theorem chI : Statement .chI := by rintro _ _ ⟨⟩; decide
theorem chJ : Statement .chJ := by rintro _ _ ⟨⟩; decide
theorem chK : Statement .chK := by rintro _ _ ⟨⟩; decide
theorem chL : Statement .chL := by rintro _ _ ⟨⟩; decide
theorem chM : Statement .chM := by rintro _ _ ⟨⟩; decide
theorem chN : Statement .chN := by rintro _ _ ⟨⟩; decide
theorem chO : Statement .chO := by rintro _ _ ⟨⟩; decide
theorem chP : Statement .chP := by rintro _ _ ⟨⟩; decide
theorem chQ : Statement .chQ := by rintro _ _ ⟨⟩; decide
theorem chR : Statement .chR := by rintro _ _ ⟨⟩; decide
theorem chS : Statement .chS := by rintro _ _ ⟨⟩; decide
theorem chT : Statement .chT := by rintro _ _ ⟨⟩; decide
theorem chU : Statement .chU := by rintro _ _ ⟨⟩; decide
theorem chV : Statement .chV := by rintro _ _ ⟨⟩; decide
theorem chW : Statement .chW := by rintro _ _ ⟨⟩; decide
theorem chX : Statement .chX := by rintro _ _ ⟨⟩; decide
theorem chY : Statement .chY := by rintro _ _ ⟨⟩; decide
theorem chZ : Statement .chZ := by rintro _ _ ⟨⟩; decide
theorem chMinus : Statement .chMinus := by rintro _ _ ⟨⟩; decide
theorem chPlus : Statement .chPlus := by rintro _ _ ⟨⟩; decide
theorem chEquals : Statement .chEquals := by rintro _ _ ⟨⟩; decide
theorem reserved40to47 (x : BitVec 3) : Statement (.reserved40to47 x) := by
  rintro _ _ ⟨⟩
  have := x.isLt
  simp only [Format.width]
  omega
theorem reserved48to63 (x : BitVec 4) : Statement (.reserved48to63 x) := by
  rintro _ _ ⟨⟩
  have := x.isLt
  simp only [Format.width]
  omega
theorem frameB0 : Statement .frameB0 := nofun
theorem frameB1 : Statement .frameB1 := nofun
theorem frameB2 : Statement .frameB2 := nofun
theorem frameB3 : Statement .frameB3 := nofun
theorem frameB4 : Statement .frameB4 := nofun
theorem frameB5 : Statement .frameB5 := nofun
theorem digsel0 : Statement .digsel0 := by rintro _ _ ⟨⟩; decide
theorem digsel1 : Statement .digsel1 := by rintro _ _ ⟨⟩; decide
theorem digsel2 : Statement .digsel2 := by rintro _ _ ⟨⟩; decide
theorem digsel3 : Statement .digsel3 := by rintro _ _ ⟨⟩; decide
theorem digsel4 : Statement .digsel4 := by rintro _ _ ⟨⟩; decide
theorem digsel5 : Statement .digsel5 := by rintro _ _ ⟨⟩; decide
theorem digsel6 : Statement .digsel6 := by rintro _ _ ⟨⟩; decide
theorem digsel7 : Statement .digsel7 := by rintro _ _ ⟨⟩; decide
theorem selbyteGroup0 (bit : BitVec 3) : Statement (.selbyteGroup0 bit) := by
  rintro _ _ ⟨⟩
  exact Nat.pow_lt_pow_right (by decide) bit.isLt
theorem selbyteGroup1 (bit : BitVec 3) : Statement (.selbyteGroup1 bit) := by
  rintro _ _ ⟨⟩
  exact Nat.pow_lt_pow_right (by decide) bit.isLt
theorem selbyteGroup2 (bit : BitVec 3) : Statement (.selbyteGroup2 bit) := by
  rintro _ _ ⟨⟩
  exact Nat.pow_lt_pow_right (by decide) bit.isLt
theorem selbyteGroup3 (bit : BitVec 3) : Statement (.selbyteGroup3 bit) := by
  rintro _ _ ⟨⟩
  exact Nat.pow_lt_pow_right (by decide) bit.isLt
theorem selbyteGroup4 (bit : BitVec 3) : Statement (.selbyteGroup4 bit) := by
  rintro _ _ ⟨⟩
  exact Nat.pow_lt_pow_right (by decide) bit.isLt
theorem mask16 (seg : Mask) : Statement (.mask16 seg) := by
  rintro _ _ ⟨⟩
  have := seg.isLt
  simp only [Format.width]
  omega
theorem pattern8Count : Statement .pattern8Count := nofun
theorem pattern8Bitmask : Statement .pattern8Bitmask := nofun
theorem tickInt : Statement .tickInt := nofun
theorem tickPub : Statement .tickPub := nofun

end Sys2Proof.Laws.EncodeFits
end

