-- ==== Sys2Proof/Laws/Step.lean ====
section
/-! SUPPORT. What a step is, in the terms of its next script entry. -/

namespace Sys2Proof.Machine

@[simp] theorem mapNext_next (f : State → State) (s : State) : mapNext f (.next s) = .next (f s) := rfl

@[simp] theorem nextAct_cons {s : State} {a : Act} {rest : List Act} (h : s.script = a :: rest) :
    s.nextAct = a := by
  simp [State.nextAct, h]

/-- The levels of a cycle are those its script entry gives. -/
theorem inputs_of_nextAct {s : State} {inp : Inputs} (h : s.nextAct = .cycle inp) : s.inputs = inp := by
  unfold State.nextAct at h
  split at h
  · simpa using h
  · next hs => subst h; simp [State.inputs, hs, inputsOf]

/-- A step at a cycle. -/
theorem step_of_cycle {s : State} {inp : Inputs} (h : s.nextAct = .cycle inp) :
    step s = mapNext (endCycle inp) (exec (fetched inp s) s) := by
  simp [step, h]

/-- A step at an observation. -/
theorem step_of_observe {s : State} {o : Observation} (h : s.nextAct = .observe o) :
    step s = mapNext endObservation (observe o s) := by
  simp [step, h]

/-- A stored mask without reserved bits is read (rule R58). -/
theorem observe_storedMask_of_ok {w : BitVec 16} {i : Instr} (h : decodeMask16 w = .ok i) (s : State) :
    observe (.storedMask w) s = exec i s := by
  simp [observe, h]

/-- A reader's look at a port: the value goes to the readout, and nothing else moves but the script (rules R44, R160). -/
theorem step_reads_port (s : State) (rest : List Act) :
    step { s with script := .observe .pattern :: rest } =
      .next { s with readout := .byte s.pattern, script := rest } ∧
    step { s with script := .observe .tick :: rest } =
      .next { s with readout := .byte s.tickPub, script := rest } ∧
    step { s with script := .observe .activeDigit :: rest } =
      .next { s with readout := .digit s.activeDigit, script := rest } ∧
    step { s with script := .observe .busy :: rest } =
      .next { s with readout := .level s.busy, script := rest } :=
  ⟨rfl, rfl, rfl, rfl⟩

/-- In a reset cycle the operation is `RESET`, whatever the phase (rule R156). -/
theorem fetched_of_rst {inp : Inputs} (h : inp.rst = true) (s : State) : fetched inp s = .reset := by
  simp [fetched, h]

/-- A legal code's row enters the step with that code (rule R52). -/
theorem exec_decodeCode6_of_legal {c : Code} (h : c.toNat < 40) (s : State) :
    exec (decodeCode6 c) s = .next (enterStep c s) := by
  obtain ⟨m, hm, rfl⟩ : ∃ m < 40, c = BitVec.ofNat 6 m := ⟨c.toNat, h, by simp⟩
  clear h
  interval_cases m <;> rfl

/-- A reserved code's row enters the step with that code, which is then clamped (rule R53). -/
theorem exec_decodeCode6_of_reserved {c : Code} (h : 40 ≤ c.toNat) (s : State) :
    exec (decodeCode6 c) s = .next (enterStep c s) := by
  have rows : ∀ c : Code, 40 ≤ c.toNat →
      (decodeCode6 c = .reserved40to47 (c.extractLsb' 0 3) ∧ 0b101#3 ++ c.extractLsb' 0 3 = c) ∨
      (decodeCode6 c = .reserved48to63 (c.extractLsb' 0 4) ∧ 0b11#2 ++ c.extractLsb' 0 4 = c) := by decide
  rcases rows c h with ⟨hi, hc⟩ | ⟨hi, hc⟩
  all_goals
    rw [hi]
    exact congrArg (fun c => Host.Outcome.next (enterStep c s)) hc

/-- In the accept cycle the row of the code on the port does what `ACCEPT` does. -/
theorem exec_decodeCode6 (c : Code) (s : State) : exec (decodeCode6 c) s = .next (enterStep c s) := by
  rcases Nat.lt_or_ge c.toNat 40 with h | h
  · exact exec_decodeCode6_of_legal h s
  · exact exec_decodeCode6_of_reserved h s

/-- The row of a digit-select byte loads that byte (rule R111). -/
theorem exec_digselInstr (d : Digit) (s : State) :
    exec ((decodeDigsel (digsel d)).toOption.getD .frameB5) s = .next (loadByte (digsel d) s) := by
  obtain ⟨m, hm, rfl⟩ : ∃ m < 8, d = BitVec.ofNat 3 m := ⟨d.toNat, d.isLt, by simp⟩
  interval_cases m <;> rfl

/-- In a LOAD cycle the row of the byte does what `LOAD` does. -/
theorem exec_loadInstr (s : State) :
    exec (loadInstr s) s = .next (loadByte (frameByte s.byteIdx s.codeQ s.activeDigit) s) := by
  obtain ⟨m, hm, hb⟩ : ∃ m < 8, s.byteIdx = BitVec.ofNat 3 m := ⟨s.byteIdx.toNat, s.byteIdx.isLt, by simp⟩
  interval_cases m <;> simp only [loadInstr, hb] <;> first | exact exec_digselInstr _ s | simp [exec, hb,
    execFrameB0, execFrameB1, execFrameB2, execFrameB3, execFrameB4, execLoad]

/-- The operation of a cycle as one function of the state: what a step can do, said once (rules R98, R156). -/
def cycleOp (inp : Inputs) (s : State) : State :=
  if inp.rst then resetClocked s
  else
    match s.phase with
    | .idle => if s.tickPend then enterStep inp.charCode s else s
    | .load => loadByte (frameByte s.byteIdx s.codeQ s.activeDigit) s
    | .bitData => { sendLowBit s with phase := .bitClkHi }
    | .bitClkHi => { raiseClk s with phase := .bitHold }
    | .bitHold => { holdLines s with phase := .bitClkLo }
    | .bitClkLo => nextBit (lowerClk s)
    | .latPre => { holdLines s with phase := .latHi }
    | .latHi => { raiseLatch s with phase := .latHold }
    | .latHold => { holdLines s with phase := .latLo }
    | .latLo => { lowerLatch s with phase := .latPost }
    | .latPost => { holdLines s with phase := .sample }
    | .sample => { sampleButton inp.btnN s with phase := .advance }
    | .advance => advanceDigit s

/-- A step at a cycle is `cycleOp` and the end of the cycle. -/
theorem step_cycle_eq {s : State} {inp : Inputs} (h : s.nextAct = .cycle inp) :
    step s = .next (endCycle inp (cycleOp inp s)) := by
  rw [step_of_cycle h]
  refine congrArg (mapNext (endCycle inp)) (?_ : _ = .next (cycleOp inp s))
  unfold fetched cycleOp
  cases inp.rst
  · cases hp : s.phase with
    | idle =>
      cases s.tickPend
      · rfl
      · exact exec_decodeCode6 inp.charCode s
    | load => exact exec_loadInstr s
    | bitHold | latPre | latHold | latPost =>
      simp only [Bool.false_eq_true, if_false, exec, execHold, hp, phaseAfterHold]
    | sample =>
      simp only [Bool.false_eq_true, if_false, exec, execBtnSample, inputs_of_nextAct h]
    | bitData | bitClkHi | bitClkLo | latHi | latLo | advance => rfl
  · rfl

/-- The operation of a cycle neither reads nor writes the script. -/
theorem cycleOp_script (inp : Inputs) (l : List Act) (s : State) :
    cycleOp inp { s with script := l } = { cycleOp inp s with script := l } := by
  unfold cycleOp
  by_cases hr : inp.rst
  · simp only [hr, if_true]
    rfl
  · simp only [hr, Bool.false_eq_true, if_false]
    cases hp : s.phase with
    | idle => cases h : s.tickPend <;> simp [enterStep_eq, h, hp]
    | bitClkHi => cases h : s.srClk <;> simp [raiseClk, h, emit, shiftChain]
    | latHi => cases h : s.srLatch <;> simp [raiseLatch, h, emit, latchChain]
    | bitClkLo => simp [nextBit_eq, lowerClk, emit]
    | sample => simp [sampleButton_eq]
    | advance => simp [advanceDigit_eq]
    | load | bitData | bitHold | latPre | latHold | latLo | latPost => rfl

/-- A step at a scripted cycle. -/
theorem step_cons_cycle (inp : Inputs) (rest : List Act) (s : State) :
    step { s with script := .cycle inp :: rest } =
      .next { endCycle inp (cycleOp inp s) with script := rest } := by
  rw [step_cycle_eq (inp := inp) rfl, cycleOp_script]
  rfl

/-- A step at an observation touches the readout and the draw counter only, and drops the entry. -/
theorem step_observe_cases {s t : State} {o : Observation} (h : s.nextAct = .observe o) (ht : step s = .next t) :
    ∃ r n, t = { s with readout := r, draws := n, script := s.script.tail } := by
  rw [step_of_observe h] at ht
  cases o with
  | storedMask w =>
    simp only [observe, decodeMask16] at ht
    split at ht
    · next hd =>
      split at hd
      · cases hd; cases ht; exact ⟨_, _, rfl⟩
      · cases hd
    · cases ht
  | pattern | patternCount | patternBits | tick | tickField | activeDigit | busy | segments | digits | font =>
    cases ht
    exact ⟨_, _, rfl⟩

/-- `runSteps` is the interface's run. -/
theorem runSteps_eq_core_run (n : Nat) (s : State) : Sys2Proof.core.run n s = runSteps n s := by
  induction n generalizing s with
  | zero => rfl
  | succ n ih =>
    simp only [Host.Core.run, runSteps]
    rw [show Sys2Proof.core.step s = step s from rfl]
    cases step s with
    | next t => exact ih t
    | fault r => rfl
    | refused r => rfl

end Sys2Proof.Machine
end

