-- ==== Sys2Proof/Tests/Slice0.lean ====
section
/-! SUPPORT. Tests: the checks of WellFormed, every row's word, one step per operation, and a witness for the hypotheses of
every statement. Expected values are from the spec's tables and vectors (95 section 2), named at each test. -/

namespace Sys2Proof.Tests

open Sys2Proof Sys2Proof.Machine

/-- A field of the next state, if there is one. -/
def look {α : Type} (f : State → α) : Result → Option α
  | .next s => some (f s)
  | .fault _ => none
  | .refused _ => none

/-- The state after reset, with a chain of zeros in place of the unknown one. -/
def zero : State := { State.reset with sh := 0, out := 0 }

/-- No reset, no tick, code 39, button not pressed. -/
def quiet : Inputs := ⟨false, false, 39, true⟩

/-! ## WellFormed -/

theorem test_wellformed_refuses_select_byte_5 : (Instr.charSelect 5 0).check = some .selectIndex := by decide

theorem test_wellformed_refuses_select_of_code_40 : (Instr.charSelect 4 40).check = some .selectCode := by decide

theorem test_wellformed_accepts_last_select : (Instr.charSelect 4 39).WellFormed := by decide

theorem test_wellformed_accepts_lookup_of_code_63 : (Instr.fontLookup 63).WellFormed := by decide

/-! ## Words, written out from R52, R53, R54, R58 and R111 -/

theorem test_decode_code6_rows :
    ∀ r ∈ [(0b000000, Instr.ch0), (0b000001, Instr.ch1), (0b000010, Instr.ch2), (0b000011, Instr.ch3), (0b000100, Instr.ch4),
      (0b000101, Instr.ch5), (0b000110, Instr.ch6), (0b000111, Instr.ch7), (0b001000, Instr.ch8), (0b001001, Instr.ch9),
      (0b001010, Instr.chSpace), (0b001011, Instr.chA), (0b001100, Instr.chB), (0b001101, Instr.chC), (0b001110, Instr.chD),
      (0b001111, Instr.chE), (0b010000, Instr.chF), (0b010001, Instr.chG), (0b010010, Instr.chH), (0b010011, Instr.chI),
      (0b010100, Instr.chJ), (0b010101, Instr.chK), (0b010110, Instr.chL), (0b010111, Instr.chM), (0b011000, Instr.chN),
      (0b011001, Instr.chO), (0b011010, Instr.chP), (0b011011, Instr.chQ), (0b011100, Instr.chR), (0b011101, Instr.chS),
      (0b011110, Instr.chT), (0b011111, Instr.chU), (0b100000, Instr.chV), (0b100001, Instr.chW), (0b100010, Instr.chX),
      (0b100011, Instr.chY), (0b100100, Instr.chZ), (0b100101, Instr.chMinus), (0b100110, Instr.chPlus), (0b100111, Instr.chEquals)], decode .code6 r.1 = .ok r.2 := by decide

theorem test_decode_reserved_rows :
    ∀ r ∈ [(0b101000, Instr.reserved40to47 0b000), (0b101111, .reserved40to47 0b111),
      (0b110000, .reserved48to63 0b0000), (0b111111, .reserved48to63 0b1111)], decode .code6 r.1 = .ok r.2 := by decide

theorem test_decode_digsel_rows :
    ∀ r ∈ [(0b11111110, Instr.digsel0), (0b11111101, .digsel1), (0b11111011, .digsel2), (0b11110111, .digsel3),
      (0b11101111, .digsel4), (0b11011111, .digsel5), (0b10111111, .digsel6), (0b01111111, .digsel7)],
      decode .digsel r.1 = .ok r.2 := by decide

theorem test_decode_selbyte_rows :
    decode (.selbyte 0) 0b00000001 = .ok (.selbyteGroup0 0) ∧ decode (.selbyte 1) 0b00000100 = .ok (.selbyteGroup1 2) ∧
    decode (.selbyte 2) 0b00001000 = .ok (.selbyteGroup2 3) ∧ decode (.selbyte 3) 0b10000000 = .ok (.selbyteGroup3 7) ∧
    decode (.selbyte 4) 0b10000000 = .ok (.selbyteGroup4 7) := by decide

theorem test_decode_mask16_row :
    decode .mask16 0b0010000000000001 = .ok (.mask16 0b10000000000001) ∧
    decode .mask16 0b0011111111111111 = .ok (.mask16 0x3FFF) := ⟨rfl, rfl⟩

theorem test_decode_rejects_by_name :
    decode .code6 64 = .error .tooWide ∧ decode .digsel 0xFF = .error .notOneCold ∧ decode .digsel 0xFC = .error .notOneCold ∧
    decode (.selbyte 0) 0x00 = .error .notOneHot ∧ decode (.selbyte 0) 0x03 = .error .notOneHot ∧
    decode (.selbyte 5) 0x01 = .error .selectIndex ∧ decode .mask16 0x8000 = .error .reservedMaskBits ∧
    decode .mask16 0x4000 = .error .reservedMaskBits := by decide

theorem test_decode_table_words :
    decodeTableWord 8 0b00100111 = some .chEquals ∧ decodeTableWord 8 0b11111110 = some .digsel0 ∧
    decodeTableWord 16 0b0000000000000001 = some (.mask16 1) ∧ decodeTableWord 8 0b10000000 = none := ⟨rfl, rfl, rfl, rfl⟩

/-! ## One operation each -/

/-- The tuple of 95 section 2: active_digit, btn_acc, pattern, tick_int, tick_pub. -/
def tuple (s : State) : Digit × Byte × Byte × BitVec 16 × Byte :=
  (s.activeDigit, s.btnAcc, s.pattern, s.tickInt, s.tickPub)

/-- P1 step 1 and V28: the tuple, and `out` with stage 0 first `11111110 1000...`. -/
theorem test_scan_step_equals_on_digit_0 :
    look (fun s => (tuple s, s.out, s.srData)) (exec (.scanStep 39 true) zero) =
      some ((1, 0, 0, 1, 0), 0x00000000017F, true) := by
  set_option maxRecDepth 4000 in decide

/-- V38 and V29: the sample of digit 7 is included in what is published. -/
theorem test_scan_step_publishes_with_digit_7 :
    look (fun s => (tuple s, s.out, s.srData)) (exec (.scanStep 0 false) { zero with activeDigit := 7, btnAcc := 7 }) =
      some ((0, 0, 8, 1, 0), 0x8000000000FE, false) := by
  set_option maxRecDepth 4000 in decide

/-- V8 and V47. -/
theorem test_accept_clamps_and_counts :
    look (fun s => (s.codeQ, s.tickInt, s.tickPub, s.tickPend, s.phase))
      (exec .accept { zero with tickPend := true, tickInt := 49, script := [.cycle ⟨false, false, 40, true⟩] }) =
      some (10, 0, 1, false, .load) := by decide

/-- R98, phase IDLE: "Otherwise nothing". -/
theorem test_idle_wait : exec .idleWait zero = .next zero := rfl

/-- V46. -/
theorem test_tick_count_49 :
    look (fun s => (s.tickInt, s.tickPub)) (exec .tickCount { zero with tickInt := 48 }) = some (49, 0) := by decide

/-- V49. -/
theorem test_tick_count_wraps :
    look (fun s => (s.tickInt, s.tickPub)) (exec .tickCount { zero with tickInt := 49, tickPub := 255 }) =
      some (0, 0) := by decide

/-- V7. -/
theorem test_clamp_keeps_39 : look (·.codeQ) (exec (.clamp 39) zero) = some 39 := by decide

/-- V8. -/
theorem test_clamp_turns_40_into_10 : look (·.codeQ) (exec (.clamp 40) zero) = some 10 := by decide

/-- V12. -/
theorem test_font_lookup : look (·.readout) (exec (.fontLookup 39) zero) = some (.mask (Config.font 39)) := rfl

/-- R70: above 39 it is the space's mask. -/
theorem test_font_lookup_reserved : look (·.readout) (exec (.fontLookup 40) zero) = some (.mask (Config.font 10)) := rfl

/-- V7. -/
theorem test_char_select : look (·.readout) (exec (.charSelect 4 39) zero) = some (.byte 0x80) := by decide

/-- V4. -/
theorem test_char_select_other_byte : look (·.readout) (exec (.charSelect 0 10) zero) = some (.byte 0x00) := by decide

/-- V26. -/
theorem test_digit_select : look (·.readout) (exec (.digitSelect 3) zero) = some (.byte 0xF7) := by decide

/-- V26. -/
theorem test_load_digit_byte :
    look (fun s => (s.shreg, s.bitIdx, s.phase)) (exec .load { zero with byteIdx := 5, activeDigit := 3, bitIdx := 7 }) =
      some (0xF7, 0, .bitData) := by decide

/-- V7. -/
theorem test_load_select_byte : look (·.shreg) (exec .load { zero with byteIdx := 4, codeQ := 39 }) = some 0x80 := by decide

/-- V23: the `D` events of A5; 32 events in all. -/
theorem test_shift_out_a5 :
    look (fun s => (s.trace.filter (fun e => e == .data true || e == .data false), s.trace.length, s.srData, s.shreg))
      (exec (.shiftOutByte 0xA5) zero) =
      some ([.data true, .data false, .data true, .data false, .data false, .data true, .data false, .data true],
        32, true, 0) := by decide

/-- R141, R143: the first bit shifted is the furthest in. -/
theorem test_shift_out_moves_the_chain : look (·.sh) (exec (.shiftOutByte 0x01) { zero with sh := 1 }) = some 0x180 := by decide

/-- 95 section 2.3, `SET_DATA` alone: `shreg == 0xFE`. -/
theorem test_set_data_fe :
    look (fun s => (s.trace, s.shreg, s.srData)) (exec .setData { zero with shreg := 0xFE, srData := true }) =
      some ([.data false], 0x7F, false) := by decide

/-- 95 section 2.3, `SET_DATA` alone: `shreg == 0x01`. -/
theorem test_set_data_01 :
    look (fun s => (s.trace, s.shreg, s.srData)) (exec .setData { zero with shreg := 0x01 }) =
      some ([.data true], 0x00, true) := by decide

/-- R141: stage 47 is lost, stage 0 takes the data line. -/
theorem test_clk_rise_shifts :
    look (fun s => (s.sh, s.srClk, s.phase)) (exec .clkRise { zero with sh := 0x800000000001, srData := true }) =
      some (3, true, .bitHold) := by decide

/-- 95 section 2.10, cycle 200. -/
theorem test_hold_before_the_latch :
    look (fun s => (s.trace, s.phase)) (exec .hold { zero with phase := .latPre }) = some ([.hold], .latHi) := by decide

/-- 95 section 2.10, cycle 34: the end of byte 0. -/
theorem test_clk_fall_next_byte :
    look (fun s => (s.byteIdx, s.phase, s.srClk)) (exec .clkFall { zero with bitIdx := 7, srClk := true }) =
      some (1, .load, false) := by decide

/-- 95 section 2.10, cycle 199: the end of byte 5. -/
theorem test_clk_fall_to_the_latch :
    look (fun s => (s.byteIdx, s.phase)) (exec .clkFall { zero with bitIdx := 7, byteIdx := 5, srClk := true }) =
      some (5, .latPre) := by decide

/-- V34. -/
theorem test_latch_pulse :
    look (fun s => (s.trace, s.out, s.srLatch)) (exec .latchPulse { zero with sh := 0x17F }) =
      some ([.hold, .latchUp, .hold, .latchDown, .hold], 0x17F, false) := by decide

/-- V34: `out` changes at the `L+`. -/
theorem test_latch_rise :
    look (fun s => (s.out, s.srLatch, s.phase)) (exec .latchRise { zero with sh := 0x17F }) =
      some (0x17F, true, .latHold) := by decide

/-- V32: the `L-` leaves the chain. -/
theorem test_latch_fall :
    look (fun s => (s.out, s.srLatch, s.phase)) (exec .latchFall { zero with sh := 0x17F, srLatch := true }) =
      some (0, false, .latPost) := by decide

/-- V36. -/
theorem test_btn_sample_counts :
    look (fun s => (s.btnAcc, s.trace))
      (exec .btnSample { zero with activeDigit := 3, btnAcc := 1, script := [.cycle ⟨false, false, 39, false⟩] }) =
      some (2, [.btn false]) := by decide

/-- V35. -/
theorem test_btn_sample_not_pressed :
    look (fun s => (s.btnAcc, s.trace))
      (exec .btnSample { zero with activeDigit := 3, btnAcc := 1, script := [.cycle quiet] }) =
      some (1, [.btn true]) := by decide

/-- V36. -/
theorem test_acc_count : look (·.btnAcc) (exec .accCount { zero with btnAcc := 1 }) = some 2 := by decide

/-- V40. -/
theorem test_acc_bitmask : look (·.btnAcc) (exec (.accBitmask 3) { zero with btnAcc := 0x01 }) = some 0x09 := by decide

/-- V37. -/
theorem test_advance_wraps :
    look (fun s => (s.activeDigit, s.btnAcc, s.pattern, s.phase))
      (exec .advance { zero with activeDigit := 7, btnAcc := 2, pattern := 5, phase := .advance }) =
      some (0, 0, 2, .idle) := by decide

/-- V35: no wrap, no publish. -/
theorem test_advance_next_digit :
    look (fun s => (s.activeDigit, s.btnAcc, s.pattern)) (exec .advance { zero with activeDigit := 3, btnAcc := 1 }) =
      some (4, 1, 0) := by decide

/-- V43. -/
theorem test_publish :
    look (fun s => (s.pattern, s.btnAcc)) (exec .publish { zero with btnAcc := 0x24, pattern := 5 }) =
      some (0x24, 0) := by decide

/-- R141. -/
theorem test_sr_shift : look (·.sh) (exec .srShift { zero with sh := 0x800000000001 }) = some 2 := by decide

/-- R142. -/
theorem test_sr_latch : look (·.out) (exec .srLatch { zero with sh := 0x17F }) = some 0x17F := by decide

/-- V13 on V28's `out`. -/
theorem test_rom_read : look (·.readout) (exec .romRead { zero with out := 0x17F }) = some (.mask (Config.font 39)) := by
  have h : oneHotRow (rowLines 0x17F#48) = some 39 := by decide +kernel
  simp [look, exec, execRomRead, observeSegments, State.segLines, romRead, h]

/-- V15: all ROW lines 0. -/
theorem test_rom_read_floats :
    look (fun s => (s.readout, s.draws)) (exec .romRead zero) = some (.mask (Config.romFloating 0 0), 1) := by
  have h : oneHotRow (rowLines 0#48) = none := by decide +kernel
  have e : zero.out = 0#48 := rfl
  have d : zero.draws = 0 := rfl
  have c : zero.cycle = 0 := rfl
  simp [look, exec, execRomRead, observeSegments, State.segLines, romRead, e, d, c, h]

/-- V28: `DIG_N` is low at 0. -/
theorem test_digit_drive_0 : look (·.readout) (exec .digitDrive { zero with out := 0x17F }) = some (.digits 0x01) := by
  decide +kernel

/-- V29: `DIG_N` is low at 7. -/
theorem test_digit_drive_7 :
    look (·.readout) (exec .digitDrive { zero with out := 0x8000000000FE }) = some (.digits 0x80) := by decide +kernel

theorem test_read_pattern : look (·.readout) (exec .readPattern { zero with pattern := 5 }) = some (.byte 5) := by decide

/-- R160: the reader's looks at `active_digit` and `busy`; the entry is dropped, the phase stays. -/
theorem test_step_reads_active_digit_and_busy :
    look (fun s => (s.readout, s.phase, s.script))
      (step { zero with phase := .sample, activeDigit := 5, script := [.observe .activeDigit] }) =
      some (.digit 5, .sample, []) ∧
    look (fun s => (s.readout, s.phase)) (step { zero with phase := .sample, script := [.observe .busy] }) =
      some (.level true, .sample) ∧
    look (·.readout) (step { zero with script := [.observe .busy] }) = some (.level false) := by decide

theorem test_read_tick : look (·.readout) (exec .readTick { zero with tickPub := 9 }) = some (.byte 9) := by decide

/-- V59. -/
theorem test_reset_keeps_the_display :
    look (fun s => (tuple s, s.srLatch, s.phase, s.out))
      (exec .reset { zero with activeDigit := 3, btnAcc := 1, tickInt := 4, srLatch := true, phase := .latHold, out := 0x17F }) =
      some ((0, 0, 0, 0, 0), false, .idle, 0x17F) := by decide

/-- R52: each character's row takes its code. -/
theorem test_character_rows : ∀ r ∈ characterRows, look (·.codeQ) (exec r.1 zero) = some r.2 := by decide

/-- V9, V11. -/
theorem test_reserved_rows :
    look (·.codeQ) (exec (.reserved40to47 7) zero) = some 10 ∧
    look (·.codeQ) (exec (.reserved48to63 15) zero) = some 10 := by decide

/-- V28: bytes 00 00 00 00 80 FE. -/
theorem test_frame_rows :
    [Instr.frameB0, .frameB1, .frameB2, .frameB3, .frameB4, .frameB5].map
      (fun i => look (·.shreg) (exec i { zero with codeQ := 39 })) =
      [some 0x00, some 0x00, some 0x00, some 0x00, some 0x80, some 0xFE] := by decide

/-- R111. -/
theorem test_digsel_rows :
    [Instr.digsel0, .digsel1, .digsel2, .digsel3, .digsel4, .digsel5, .digsel6, .digsel7].map
      (fun i => look (·.shreg) (exec i zero)) =
      [some 0xFE, some 0xFD, some 0xFB, some 0xF7, some 0xEF, some 0xDF, some 0xBF, some 0x7F] := by decide

/-- V1, V4, V5, V7 and code 19: the byte of the code's group. -/
theorem test_selbyte_rows :
    look (·.shreg) (exec (.selbyteGroup0 0) zero) = some 0x01 ∧
    look (·.shreg) (exec (.selbyteGroup1 2) { zero with byteIdx := 1 }) = some 0x04 ∧
    look (·.shreg) (exec (.selbyteGroup2 3) { zero with byteIdx := 2 }) = some 0x08 ∧
    look (·.shreg) (exec (.selbyteGroup3 7) { zero with byteIdx := 3 }) = some 0x80 ∧
    look (·.shreg) (exec (.selbyteGroup4 7) { zero with byteIdx := 4 }) = some 0x80 := by decide

/-- V1: the other bytes are 0. -/
theorem test_selbyte_other_byte : look (·.shreg) (exec (.selbyteGroup0 0) { zero with byteIdx := 4 }) = some 0x00 := by decide

theorem test_mask16 : look (·.readout) (exec (.mask16 0x2001) zero) = some (.mask 0x2001) := by decide

/-- R58: bit 0 is `a`, bit 13 is `n`. -/
theorem test_segment_names : litSegments 0x2001 = ['a', 'n'] := by decide

/-- P2, after step 8, in both modes (R59). -/
theorem test_pattern8 :
    look (·.readout) (exec .pattern8Count { zero with pattern := 0x02 }) = some (.count 2) ∧
    look (·.readout) (exec .pattern8Bitmask { zero with pattern := 0x24, btnMode := .bitmask }) = some (.pressed 0x24) := by decide

theorem test_tick_formats :
    look (·.readout) (exec .tickInt { zero with tickInt := 49 }) = some (.word 49) ∧
    look (·.readout) (exec .tickPub { zero with tickPub := 255 }) = some (.byte 255) := by decide

/-! ## One step each -/

/-- V55: a pulse in the accept cycle wins over the acceptance. -/
theorem test_step_pulse_wins :
    look (fun s => (s.tickPend, s.phase, s.codeQ))
      (step { zero with tickPend := true, script := [.cycle { quiet with tick := true }] }) = some (true, .load, 39) := by decide

/-- V60: a tick in the reset cycle is discarded. -/
theorem test_step_reset_discards_the_tick :
    look (fun s => (s.tickPend, s.phase))
      (step { zero with phase := .sample, script := [.cycle { quiet with rst := true, tick := true }] }) =
      some (false, .idle) := by decide

/-- V40: mode BITMASK, in the SAMPLE cycle. -/
theorem test_step_samples_in_bitmask :
    look (fun s => (s.btnAcc, s.phase))
      (step { zero with
        phase := .sample, activeDigit := 3, btnAcc := 1, btnMode := .bitmask
        script := [.cycle { quiet with btnN := false }] }) = some (0x09, .advance) := by decide

/-- 95 section 2.10, cycle 167: byte 5 of digit 0. -/
theorem test_step_loads_the_digit_byte :
    look (fun s => (s.shreg, s.phase)) (step { zero with phase := .load, byteIdx := 5, script := [.cycle quiet] }) =
      some (0xFE, .bitData) := by decide

/-- A placed code is accepted by the very next step. -/
theorem test_placed_code_runs : look (fun s => (s.codeQ, s.phase)) (step (State.reset.withFetchWord 8 0x27)) = some (39, .load) :=
  rfl

/-- A placed digit byte is loaded by the very next step. -/
theorem test_placed_digit_byte_runs : look (·.shreg) (step (State.reset.withFetchWord 8 0xF7)) = some 0xF7 := rfl

/-- A placed mask is read by the very next step. -/
theorem test_placed_mask_runs : look (·.readout) (step (State.reset.withFetchWord 16 0x2001)) = some (.mask 0x2001) := rfl

/-- A line of a stimulus script is one cycle with the tick and the 206 cycles of the step (R65, R100). -/
theorem test_tick_line_length : (tickLine 39 true).length = 207 := by decide +kernel

/-! ## Witnesses: the hypotheses of each statement are met, each clause at a boundary -/

/-- A state whose next cycle has the levels of `quiet`. -/
def ready (s : State) : State := { s with script := [.cycle quiet] }

/-- A state before the `L+` of a step of code 39 on digit 0: V28's frame is in the chain. -/
def beforeLatch : State :=
  { zero with phase := .latHi, byteIdx := 5, bitIdx := 7, codeQ := 39, srData := true, sh := 0x17F, script := [.cycle quiet] }

/-- A pending tick, and 206 quiet cycles ahead. -/
def beforeStep : State :=
  { zero with tickPend := true, script := (List.replicate 206 quiet).map .cycle ++ [] }

theorem witness_DecodeUndoesEncode :
    Instr.WellFormed .chA ∧ encode .chA = some (.code6, 0b001011) ∧
    Instr.WellFormed (.mask16 0x3FFF) ∧ encode (.mask16 0x3FFF) = some (.mask16, 0x3FFF) := by decide

theorem witness_EncodeUndoesDecode :
    decode .digsel 0x7F = .ok .digsel7 ∧ decode (.selbyte 4) 0x80 = .ok (.selbyteGroup4 7) := by decide

theorem witness_CharactersHaveTheirCodes :
    codeOfChar '9' = some 9 ∧ codeOfChar 'Z' = some 36 ∧ codeOfChar '=' = some 39 ∧ 40 ≤ (40 : Code).toNat ∧
    codeOfChar '@' = none := by decide

theorem witness_SelectBytesAreOneHot : (4 : BitVec 3).toNat ≤ 4 ∧ (39 : Code).toNat ≤ 39 ∧ 7 < 8 := by decide

theorem witness_FrameInClosedForm : (39 : Code).toNat ≤ 39 ∧ 47 < 48 := by decide

theorem witness_CharacterCodesEnterTheStep : (Instr.ch0, (0 : Code)) ∈ characterRows ∧ (Instr.chEquals, (39 : Code)) ∈ characterRows := by
  decide

theorem witness_ReservedCodeActsAsSpace : 40 ≤ ({ quiet with charCode := 40 } : Inputs).charCode.toNat := by decide

theorem witness_PureFunctionsAnswer :
    (39 : Code).toNat < 40 ∧ 40 ≤ (40 : Code).toNat ∧ Instr.WellFormed (.charSelect 4 39) := by decide

theorem witness_LoadTakesTheFrameByte :
    ({ zero with byteIdx := 5 } : State).byteIdx.toNat ≤ 5 ∧ zero.byteIdx.toNat ≤ 5 := by decide

theorem witness_FrameRowsLoadTheirByte :
    (Instr.frameB4, (4 : BitVec 3)) ∈ [(Instr.frameB0, (0 : BitVec 3)), (.frameB1, 1), (.frameB2, 2), (.frameB3, 3), (.frameB4, 4)] := by
  decide

theorem witness_SelectGroupRowsLoadTheirByte (bit : BitVec 3) :
    (Instr.selbyteGroup4 bit, (4 : BitVec 3)) ∈
      [(Instr.selbyteGroup0 bit, (0 : BitVec 3)), (.selbyteGroup1 bit, 1), (.selbyteGroup2 bit, 2),
        (.selbyteGroup3 bit, 3), (.selbyteGroup4 bit, 4)] := by simp

theorem witness_DigitRowsLoadTheirByte :
    (Instr.digsel7, (0x7F : Byte)) ∈
      [(Instr.digsel0, (0xFE : Byte)), (.digsel1, 0xFD), (.digsel2, 0xFB), (.digsel3, 0xF7), (.digsel4, 0xEF),
        (.digsel5, 0xDF), (.digsel6, 0xBF), (.digsel7, 0x7F)] := by decide

/-- For the statements that ask for low lines: SHIFT_OUT_BYTE, CLK_RISE, LATCH_PULSE, LATCH_RISE, SCAN_STEP, the display. -/
theorem witness_low_lines : zero.srClk = false ∧ zero.srLatch = false := by decide

/-- For the clauses of LATCH_RISE and CLK_RISE on a high line. -/
theorem witness_high_lines :
    ({ zero with srLatch := true } : State).srLatch = true ∧ ({ zero with srClk := true } : State).srClk = true := by decide

theorem witness_WaitingOperationsOnlyWait :
    (Phase.latPost, Phase.sample) ∈
      [(Phase.bitHold, Phase.bitClkLo), (.latPre, .latHi), (.latHold, .latLo), (.latPost, .sample)] ∧
    ({ zero with phase := .latPost } : State).phase = .latPost := by decide

theorem witness_ClkFallControlsTheLoops :
    ({ zero with bitIdx := 6 } : State).bitIdx ≠ 7 ∧
    (({ zero with bitIdx := 7, byteIdx := 4 } : State).bitIdx = 7 ∧
      ({ zero with bitIdx := 7, byteIdx := 4 } : State).byteIdx ≠ 5) ∧
    (({ zero with bitIdx := 7, byteIdx := 5 } : State).bitIdx = 7 ∧
      ({ zero with bitIdx := 7, byteIdx := 5 } : State).byteIdx = 5) := by decide

theorem witness_ButtonIsSampledOnce :
    (ready zero).inputs.btnN = true ∧
    (({ zero with script := [.cycle { quiet with btnN := false }] } : State).inputs.btnN = false ∧ zero.btnMode = .count) ∧
    (({ zero with btnMode := .bitmask, script := [.cycle { quiet with btnN := false }] } : State).inputs.btnN = false ∧
      ({ zero with btnMode := .bitmask } : State).btnMode = .bitmask) := by decide

theorem witness_AdvanceGoesToTheNextDigit :
    ({ zero with activeDigit := 7 } : State).activeDigit = 7 ∧ ({ zero with activeDigit := 6 } : State).activeDigit ≠ 7 := by decide

theorem witness_RomReadSelectsTheOneHotWord :
    (∀ j < 40, (({ zero with out := 0x17F } : State).out.getLsbD (47 - j) = true ↔ j = (39 : Fin 40).val)) ∧
    ¬ ∃ k < 40, ∀ j < 40, (zero.out.getLsbD (47 - j) = true ↔ j = k) := by
  refine ⟨by decide, ?_⟩
  rintro ⟨k, hk, h⟩
  exact absurd ((h k hk).mpr rfl) (by simp [zero])

theorem witness_ReadersReadTheRegisters :
    zero.btnMode = .count ∧ ({ zero with btnMode := .bitmask } : State).btnMode = .bitmask ∧
    ({ zero with script := [.observe .pattern] } : State).nextAct = .observe .pattern ∧
    ({ zero with script := [.observe .tick] } : State).nextAct = .observe .tick ∧
    ({ zero with script := [.observe .activeDigit] } : State).nextAct = .observe .activeDigit ∧
    ({ zero with script := [.observe .busy] } : State).nextAct = .observe .busy := by decide

theorem witness_StepRunsTheDecodedWord :
    (∃ t, (ready { zero with tickPend := true }).nextAct = .cycle quiet ∧ quiet.rst = false ∧
      (ready { zero with tickPend := true }).phase = .idle ∧ (ready { zero with tickPend := true }).tickPend = true ∧
      decode .code6 quiet.charCode.toNat = .ok .chEquals ∧ exec .chEquals (ready { zero with tickPend := true }) = .next t) ∧
    (∃ t, (ready { zero with phase := .load, byteIdx := 5 }).nextAct = .cycle quiet ∧
      decode .digsel (digsel (ready { zero with phase := .load, byteIdx := 5 }).activeDigit).toNat = .ok .digsel0 ∧
      exec .digsel0 (ready { zero with phase := .load, byteIdx := 5 }) = .next t) ∧
    (∃ t, ({ zero with script := [.observe (.storedMask 0x3FFF)] } : State).nextAct = .observe (.storedMask 0x3FFF) ∧
      decode .mask16 (0x3FFF : BitVec 16).toNat = .ok (.mask16 0x3FFF) ∧
      exec (.mask16 0x3FFF) { zero with script := [.observe (.storedMask 0x3FFF)] } = .next t) :=
  ⟨⟨_, rfl, rfl, rfl, rfl, rfl, rfl⟩, ⟨_, rfl, rfl, rfl⟩, ⟨_, rfl, rfl, rfl⟩⟩

theorem witness_PlacedWordRunsNext :
    decodeTableWord 8 0x3F = some (.reserved48to63 15) ∧ decodeTableWord 8 0x7F = some .digsel7 ∧
    decodeTableWord 16 0x3FFF = some (.mask16 0x3FFF) := ⟨rfl, rfl, rfl⟩

theorem witness_SequencerRunsItsPhase :
    (∃ t, (ready zero).nextAct = .cycle quiet ∧ quiet.rst = false ∧ (ready zero).phase = .idle ∧
      exec (if (ready zero).tickPend then .accept else .idleWait) (ready zero) = .next t) ∧
    (∃ t, ((ready { zero with phase := .advance }).phase, Instr.advance) ∈
        [(Phase.load, Instr.load), (.bitData, .setData), (.bitClkHi, .clkRise), (.bitHold, .hold),
          (.bitClkLo, .clkFall), (.latPre, .hold), (.latHi, .latchRise), (.latHold, .hold), (.latLo, .latchFall),
          (.latPost, .hold), (.sample, .btnSample), (.advance, .advance)] ∧
      exec .advance (ready { zero with phase := .advance }) = .next t) :=
  ⟨⟨_, rfl, rfl, rfl, rfl⟩, ⟨_, by decide, rfl⟩⟩

theorem witness_ResetWinsOverEverything :
    ({ zero with phase := .latHold, script := [.cycle { quiet with rst := true, tick := true }] } : State).nextAct =
      .cycle { quiet with rst := true, tick := true } ∧ ({ quiet with rst := true, tick := true } : Inputs).rst = true := by
  decide

/-- For the pending flag, for the published registers and for the rules on a cycle without reset. -/
theorem witness_cycle_without_reset :
    ∃ t, (ready zero).nextAct = .cycle quiet ∧ quiet.rst = false ∧ step (ready zero) = .next t :=
  ⟨_, rfl, rfl, rfl⟩

theorem witness_ObservationsChangeNothing :
    ∃ t, ({ zero with script := [.observe .segments] } : State).nextAct = .observe .segments ∧
      step { zero with script := [.observe .segments] } = .next t :=
  ⟨_, rfl, rfl⟩

theorem witness_ReservedMaskBitsAreRefused :
    ({ zero with script := [.observe (.storedMask 0x8000)] } : State).nextAct = .observe (.storedMask 0x8000) ∧
    (0x8000 : BitVec 16).getLsbD 15 = true ∧ (0x4000 : BitVec 16).getLsbD 14 = true ∧
    ((0x3FFF : BitVec 16).getLsbD 15 = false ∧ (0x3FFF : BitVec 16).getLsbD 14 = false) := by decide

/-- Both cases: a step that moves no line, and the `L+`. -/
theorem witness_LinesChangeOnlyAtTheLatch :
    (∃ t, step (ready zero) = .next t) ∧
    ∃ t, step beforeLatch = .next t ∧ rowLines t.out ≠ rowLines beforeLatch.out :=
  ⟨⟨_, rfl⟩, ⟨_, rfl, by decide +kernel⟩⟩

theorem witness_InputsMatterOnlyWhenRead :
    ¬ (zero.phase = .idle ∧ zero.tickPend = true) ∧ zero.phase ≠ .sample := by decide

theorem scanInv_beforeLatch : ScanInv beforeLatch := by
  refine ⟨by decide, ?_, trivial, trivial⟩
  unfold ShiftProgress
  decide

theorem witness_StepKeepsTheSequencerInvariant : ∃ t, Inv beforeLatch ∧ step beforeLatch = .next t :=
  ⟨_, scanInv_beforeLatch.1, rfl⟩

theorem witness_StepKeepsTheChainInvariant : ∃ t, ScanInv beforeLatch ∧ step beforeLatch = .next t :=
  ⟨_, scanInv_beforeLatch, rfl⟩

/-- The display already holds a frame, of code 39 on digit 7 (V29's digit). -/
theorem witness_DisplayStaysWhole :
    ∃ t, ScanInv { beforeLatch with out := 0x1FE } ∧ DisplayWhole { beforeLatch with out := 0x1FE } ∧
      step { beforeLatch with out := 0x1FE } = .next t := by
  refine ⟨_, ⟨by decide, ?_, trivial, trivial⟩, ⟨39, 7, by decide, by decide +kernel⟩, rfl⟩
  unfold ShiftProgress
  decide

theorem witness_LatchShowsTheStepsFrame :
    ScanInv beforeLatch ∧ beforeLatch.phase = .latHi ∧ beforeLatch.nextAct = .cycle quiet ∧ quiet.rst = false :=
  ⟨scanInv_beforeLatch, rfl, rfl, rfl⟩

/-- For the agreement of the grains, for the completion of a step and for its timetable. -/
theorem witness_TheTwoGrainsAgree :
    beforeStep.phase = .idle ∧ beforeStep.tickPend = true ∧
    beforeStep.script = (List.replicate 206 quiet).map .cycle ++ [] ∧
    (List.replicate 206 quiet).length = 206 ∧
    (∀ x ∈ List.replicate 206 quiet, x.rst = false ∧ x.tick = false) ∧
    (List.replicate 206 quiet)[0]?.map Inputs.charCode = some 39 ∧
    (List.replicate 206 quiet)[204]?.map Inputs.btnN = some true := by
  refine ⟨rfl, rfl, rfl, List.length_replicate, ?_, by decide +kernel, by decide +kernel⟩
  intro x hx
  obtain ⟨-, rfl⟩ := List.mem_replicate.mp hx
  exact ⟨rfl, rfl⟩

theorem witness_StepKeepsItsTimetable : 1 ≤ 205 ∧ 205 ≤ 205 ∧ 47 < 48 ∧ 4 + 4 * 47 + 47 / 8 = 197 := by decide

/-- P2's first cycle, digits 2 and 5 pressed, in mode BITMASK. -/
theorem witness_BitmaskCyclePublishesItsSamples :
    ({ zero with btnMode := .bitmask } : State).btnMode = .bitmask ∧ zero.srClk = false ∧ zero.srLatch = false ∧
    zero.activeDigit = 0 ∧ zero.btnAcc = 0 ∧
    [((30 : Code), true), (15, true), (30, false), (28, true), (11, true), (37, false), (1, true), (4, true)].length = 8 := by
  decide

end Sys2Proof.Tests
end

section
/-! The lines of the display, functions of the output stage, move at the latch's rising edge only (spec 20 rule R43). -/

namespace Sys2Proof.Machine

/-- No edge of the clock line reaches the output stage (rule R141). -/
@[simp] theorem raiseClk_out (s : State) : (raiseClk s).out = s.out := by
  cases h : s.srClk
  · rw [raiseClk_of_low h]
  · rw [raiseClk_of_high h, emit_out]

/-- The output stage takes the shift stage at a rising edge, and otherwise stays (rule R142). -/
@[simp] theorem raiseLatch_out (s : State) : (raiseLatch s).out = if s.srLatch then s.out else s.sh := by
  cases h : s.srLatch
  · rw [raiseLatch_of_low h]; rfl
  · rw [raiseLatch_of_high h, emit_out]; rfl

@[simp] theorem raiseLatch_srLatch (s : State) : (raiseLatch s).srLatch = true := by
  cases h : s.srLatch
  · rw [raiseLatch_of_low h]
  · rw [raiseLatch_of_high h, emit_srLatch, h]

/-- The cycles in which the latch line is written 1: phase LAT_HI without a reset (rules R94, R98, R156). -/
abbrev RaisesLatch (inp : Inputs) (s : State) : Prop := inp.rst = false ∧ s.phase = .latHi

theorem cycleOp_of_raisesLatch {inp : Inputs} {s : State} (h : RaisesLatch inp s) :
    cycleOp inp s = { raiseLatch s with phase := .latHold } := by
  obtain ⟨hrst, hphase⟩ := h
  simp [cycleOp, hrst, hphase]

/-- Every other cycle, a reset's included, leaves the output stage. -/
theorem cycleOp_out_of_not_raisesLatch {inp : Inputs} {s : State} (h : ¬ RaisesLatch inp s) :
    (cycleOp inp s).out = s.out := by
  unfold cycleOp
  cases hrst : inp.rst with
  | true => exact resetClocked_out s
  | false =>
    simp only [Bool.false_eq_true, if_false]
    cases hphase : s.phase with
    | latHi => exact absurd ⟨hrst, hphase⟩ h
    | idle => cases s.tickPend <;> simp [enterStep_eq]
    | bitClkHi => exact raiseClk_out s
    | bitClkLo => rw [nextBit_eq, lowerClk_out]
    | sample => rw [sampleButton_eq]
    | advance => rw [advanceDigit_eq]
    | load | bitData | bitHold | latPre | latHold | latLo | latPost => rfl

/-- What any step does to the output stage: nothing, or the latch line rises and it takes the shift stage. -/
theorem step_out_cases {s t : State} (ht : step s = .next t) :
    t.out = s.out ∨ (s.srLatch = false ∧ t.srLatch = true ∧ t.out = s.sh) := by
  cases hact : s.nextAct with
  | observe o =>
    obtain ⟨r, n, rfl⟩ := step_observe_cases hact ht
    exact .inl rfl
  | cycle inp =>
    rw [step_cycle_eq hact] at ht
    cases ht
    by_cases hraise : RaisesLatch inp s
    · rw [cycleOp_of_raisesLatch hraise]
      cases hlatch : s.srLatch <;> simp [hlatch]
    · exact .inl (cycleOp_out_of_not_raisesLatch hraise)

/-- Settles O45: the ROW and DIG_N lines are functions of the output stage, and `step_out_cases` says when it moves. -/
theorem linesChangeOnlyAtTheLatch : Obligations.LinesChangeOnlyAtTheLatch := by
  intro s t ht
  rcases step_out_cases ht with hkept | hlatched
  · exact .inl ⟨congrArg rowLines hkept, congrArg digNLines hkept⟩
  · exact .inr hlatched

end Sys2Proof.Machine
end

section
/-! PROOFS. The select bytes and the digit-select byte bit by bit (rules R51, R54, R55), and the obligations that say so. -/

namespace Sys2Proof.Machine

/-- `c[5:3]` is the quotient of the code by 8 (rule R51). -/
@[simp] theorem codeGroup_toNat (c : Code) : (codeGroup c).toNat = c.toNat / 8 := by
  have hc := c.isLt
  simp only [codeGroup, BitVec.extractLsb'_toNat, Nat.shiftRight_eq_div_pow]
  omega

/-- `c[2:0]` is the remainder of the code by 8 (rule R51). -/
@[simp] theorem codeBit_toNat (c : Code) : (codeBit c).toNat = c.toNat % 8 := by
  simp [codeBit]

/-- A byte with the one bit `p` set. -/
theorem getLsbD_one_shiftLeft {j : Nat} (hj : j < 8) (p : Nat) : (1#8 <<< p).getLsbD j = decide (j = p) := by
  rw [← BitVec.twoPow_eq, BitVec.getLsbD_twoPow, Bool.eq_iff_iff]
  simp only [Bool.and_eq_true, decide_eq_true_eq]
  omega

/-- Byte `i` holds the positions from `8 i` of the 40 select lines, of which only the code's is set (rule R54). -/
theorem selbyte_getLsbD (i : BitVec 3) (c : Code) {j : Nat} (hj : j < 8) :
    (selbyte i c).getLsbD j = decide (8 * i.toNat + j = c.toNat) := by
  by_cases hi : i = codeGroup c
  · rw [selbyte, if_pos hi, getLsbD_one_shiftLeft hj, hi, codeGroup_toNat, codeBit_toNat, decide_eq_decide]
    omega
  · have hne : i.toNat ≠ c.toNat / 8 := fun h => hi (BitVec.eq_of_toNat_eq (h.trans (codeGroup_toNat c).symm))
    rw [selbyte, if_neg hi, BitVec.ofNat_eq_ofNat, BitVec.getLsbD_zero, eq_comm, decide_eq_false_iff_not]
    omega

/-- The digit-select byte is active low: only the active digit's bit is 0 (rule R55). -/
theorem digsel_getLsbD (d : Digit) {j : Nat} (hj : j < 8) : (digsel d).getLsbD j = decide (j ≠ d.toNat) := by
  have hones : (0xFF#8).getLsbD j = true := by
    rw [show 0xFF#8 = BitVec.allOnes 8 from rfl, BitVec.getLsbD_allOnes, decide_eq_true hj]
  rw [digsel, BitVec.getLsbD_xor, hones, getLsbD_one_shiftLeft hj, Bool.true_xor, decide_not]

/-- Settles O5: the closed form is the definition, and `selbyte_getLsbD` reads it bit by bit (for every code, reserved
ones included). -/
theorem selectBytesAreOneHot : Obligations.SelectBytesAreOneHot := by
  intro i c _ _
  refine ⟨rfl, fun j hj => ?_⟩
  rw [selbyte_getLsbD i c hj, decide_eq_true_iff]

/-- Settles O6: the closed form is the definition, `digsel_getLsbD` reads it bit by bit, and the eight values are
computed. -/
theorem digitSelectByteHasOneClearBit : Obligations.DigitSelectByteHasOneClearBit := by
  refine ⟨fun _ => rfl, fun d j hj => ?_, by decide⟩
  rw [digsel_getLsbD d hj, decide_eq_false_iff_not, not_not]

end Sys2Proof.Machine
end

section
/-! PROOFS. The first and the last micro-operation of a bit in the serial shift driver: `SET_DATA` (rule R81), and
`CLK_FALL` with its loop control (rule R84). -/

namespace Sys2Proof.Machine

/-- The three registers that the two writes of `SET_DATA` touch; both read `shreg` as it was (rule R81). -/
theorem sendLowBit_eq (s : State) :
    sendLowBit s =
      { s with
        srData := s.shreg.getLsbD 0, shreg := s.shreg >>> 1
        trace := s.trace ++ [.data (s.shreg.getLsbD 0)] } := rfl

theorem exec_setData (s : State) : exec .setData s = .next { sendLowBit s with phase := .bitClkHi } := rfl

/-- Settles O20: `sendLowBit_eq` with the phase the sequencer goes to. -/
theorem setDataSendsTheLowBit : Obligations.SetDataSendsTheLowBit := by
  intro s
  rw [exec_setData, sendLowBit_eq]

/-- Lowering the clock line leaves the chain: the receiver does nothing on a falling edge (rule R145). -/
theorem lowerClk_eq (s : State) : lowerClk s = { s with srClk := false, trace := s.trace ++ [.clkDown] } := rfl

theorem exec_clkFall (s : State) : exec .clkFall s = .next (nextBit (lowerClk s)) := rfl

/-- Settles O23: lowering the line leaves both counters, so the three clauses are the three branches of the loop
control, read off `nextBit_eq`. -/
theorem clkFallControlsTheLoops : Obligations.ClkFallControlsTheLoops := by
  intro s
  rw [exec_clkFall, nextBit_eq, lowerClk_eq]
  refine ⟨fun hbit => ?next_bit, fun hbit hbyte => ?next_byte, fun hbit hbyte => ?frame_end⟩
  case next_bit => simp_all
  case next_byte => simp_all
  case frame_end => simp_all

end Sys2Proof.Machine
end

section
/-! PROOFS. The end of a scan step (`ADVANCE`, rule R96), and the digits that a run of whole steps shows (rule R102). -/

namespace Sys2Proof.Machine

theorem exec_advance (s : State) : exec .advance s = .next (advanceDigit s) := rfl

/-- The wrap condition fails on every other digit (rule R96). -/
theorem wraps_eq_false {d : Digit} (h : d ≠ 7) : wraps d = false :=
  Bool.eq_false_iff.mpr (mt (wraps_iff d).mp h)

/-- From digit 7 the digit returns to 0 and the accumulator is published and cleared. -/
theorem advanceDigit_of_last {s : State} (hlast : s.activeDigit = 7) :
    advanceDigit s = { s with activeDigit := 0, pattern := s.btnAcc, btnAcc := 0, phase := .idle } := by
  simp [advanceDigit_eq, (wraps_iff _).mpr hlast]

theorem advanceDigit_of_inner {s : State} (hinner : s.activeDigit ≠ 7) :
    advanceDigit s = { s with activeDigit := s.activeDigit + 1, phase := .idle } := by
  simp [advanceDigit_eq, wraps_eq_false hinner]

/-- Settles O28: the two clauses are the two branches of the wrap test. -/
theorem advanceGoesToTheNextDigit : Obligations.AdvanceGoesToTheNextDigit :=
  ⟨fun s hlast => (exec_advance s).trans (congrArg _ (advanceDigit_of_last hlast)),
    fun s hinner => (exec_advance s).trans (congrArg _ (advanceDigit_of_inner hinner))⟩

/-- The wrap is the increment of a 3-bit register: the digit after 7 is 0. -/
theorem advanceDigit_activeDigit (s : State) : (advanceDigit s).activeDigit = s.activeDigit + 1 := by
  by_cases hlast : s.activeDigit = 7
  · rw [advanceDigit_of_last hlast, hlast]
    rfl
  · rw [advanceDigit_of_inner hlast]

/-! ## One whole step, between idle states -/

theorem exec_scanStep (c : Code) (b : Level) (s : State) : exec (.scanStep c b) s = .next (scanOnce c b s) := rfl

/-- Clock and latch line are low, as they are between two steps (rules R28, R90). -/
abbrev PinsLow (s : State) : Prop := s.srClk = false ∧ s.srLatch = false

theorem scanOnce_pinsLow (c : Code) (b : Level) {s : State} (hlow : PinsLow s) : PinsLow (scanOnce c b s) := by
  obtain ⟨hclk, hlatch⟩ := hlow
  rw [scanOnce_of_low c b hclk hlatch, advanceDigit_eq, sampleButton_eq]
  exact ⟨rfl, rfl⟩

theorem scanOnce_activeDigit (c : Code) (b : Level) {s : State} (hlow : PinsLow s) :
    (scanOnce c b s).activeDigit = s.activeDigit + 1 := by
  obtain ⟨hclk, hlatch⟩ := hlow
  rw [scanOnce_of_low c b hclk hlatch, advanceDigit_activeDigit, sampleButton_eq]

/-- The output stage keeps the step's own frame, for the digit as it was before the advance. -/
theorem scanOnce_out (c : Code) (b : Level) {s : State} (hlow : PinsLow s) :
    (scanOnce c b s).out = (frame48 (clampCode c) s.activeDigit).reverse := by
  obtain ⟨hclk, hlatch⟩ := hlow
  rw [scanOnce_of_low c b hclk hlatch, advanceDigit_eq, sampleButton_eq]

/-! ## A run of whole steps -/

/-- The state after one whole step for each line of a stimulus; `runLines_eq` ties it to the model's run. -/
def scanLines (lines : List (Code × Level)) (s : State) : State :=
  lines.foldl (fun u l => scanOnce l.1 l.2 u) s

@[simp] theorem scanLines_nil (s : State) : scanLines [] s = s := rfl

@[simp] theorem scanLines_cons (c : Code) (b : Level) (rest : List (Code × Level)) (s : State) :
    scanLines ((c, b) :: rest) s = scanLines rest (scanOnce c b s) := rfl

theorem scanLines_concat (lines : List (Code × Level)) (c : Code) (b : Level) (s : State) :
    scanLines (lines ++ [(c, b)]) s = scanOnce c b (scanLines lines s) := by
  simp [scanLines]

/-- Every stimulus runs to its end. -/
theorem runLines_eq (lines : List (Code × Level)) (s : State) : runLines lines s = .next (scanLines lines s) := by
  induction lines generalizing s with
  | nil => rfl
  | cons line rest ih =>
    obtain ⟨c, b⟩ := line
    rw [runLines, exec_scanStep, scanLines_cons]
    exact ih (scanOnce c b s)

theorem scanLines_pinsLow (lines : List (Code × Level)) {s : State} (hlow : PinsLow s) :
    PinsLow (scanLines lines s) := by
  induction lines generalizing s with
  | nil => exact hlow
  | cons line rest ih => exact ih (scanOnce_pinsLow line.1 line.2 hlow)

/-- Each step moves the digit on by one, modulo 8 (rule R102). -/
theorem scanLines_activeDigit (lines : List (Code × Level)) {s : State} (hlow : PinsLow s) :
    (scanLines lines s).activeDigit = s.activeDigit + BitVec.ofNat 3 lines.length := by
  induction lines generalizing s with
  | nil => simp
  | cons line rest ih =>
    obtain ⟨c, b⟩ := line
    rw [scanLines_cons, ih (scanOnce_pinsLow c b hlow), scanOnce_activeDigit c b hlow, List.length_cons,
      Nat.add_comm rest.length 1, BitVec.ofNat_add, BitVec.add_assoc]
    rfl

theorem pinsLow_reset : PinsLow State.reset := ⟨rfl, rfl⟩

theorem scanLines_reset_activeDigit (lines : List (Code × Level)) :
    (scanLines lines State.reset).activeDigit = BitVec.ofNat 3 lines.length := by
  rw [scanLines_activeDigit lines pinsLow_reset, show State.reset.activeDigit = 0#3 from rfl, BitVec.zero_add]

/-! ## What the digit lines show of a latched frame -/

/-- Stream positions 40 to 47 of a frame are its digit-select byte (rule R36). -/
theorem frame48_digitByte (c : Code) (d : Digit) : (frame48 c d).extractLsb' 40 8 = digsel d := by
  rw [frame48]
  iterate 5 rw [BitVec.extractLsb'_append_eq_of_le (by decide)]
  exact BitVec.extractLsb'_eq_self

theorem digNLines_reverse_frame48 (c : Code) (d : Digit) : digNLines (frame48 c d).reverse = digsel d := by
  rw [digNLines, latchedFrame_reverse, frame48_digitByte]

/-- A latched frame enables its own digit and no other (rules R55, R112). -/
theorem enabledDigits_reverse_frame48 (c : Code) (d : Digit) {j : Nat} (hj : j < 8) :
    (enabledDigits (frame48 c d).reverse).getLsbD j = decide (j = d.toNat) := by
  rw [enabledDigits, digNLines_reverse_frame48, BitVec.getLsbD_not, digsel_getLsbD d hj]
  simp [hj]

/-- Settles O55: `n` steps from reset leave the digit at `n` modulo 8 (`scanLines_activeDigit`), and the next step latches
the frame of that digit and advances it. -/
theorem stepNumberShowsItsDigit : Obligations.StepNumberShowsItsDigit := by
  intro lines c b
  have hlow : PinsLow (scanLines lines State.reset) := scanLines_pinsLow lines pinsLow_reset
  refine ⟨_, runLines_eq _ _, fun j hj => ?shown, ?next⟩
  case shown =>
    rw [scanLines_concat, scanOnce_out c b hlow, enabledDigits_reverse_frame48 _ _ hj, decide_eq_true_iff,
      scanLines_reset_activeDigit, BitVec.toNat_ofNat]
  case next =>
    rw [scanLines_reset_activeDigit, List.length_append, BitVec.toNat_ofNat]
    rfl

end Sys2Proof.Machine
end

section
/-! PROOFS. The sample of the button line (`BTN_SAMPLE`, rule R120): one read, and a pressed sample goes to the
accumulate that `BTN_MODE` selects. -/

namespace Sys2Proof.Machine

theorem exec_btnSample (s : State) :
    exec .btnSample s = .next { sampleButton s.inputs.btnN s with phase := .advance } := rfl

theorem exec_accCount (s : State) : exec .accCount s = .next (countPress s) := rfl

theorem exec_accBitmask (d : Digit) (s : State) : exec (.accBitmask d) s = .next (markPress d s) := rfl

/-- A line at 1 is not pressed: the read is only recorded. -/
theorem sampleButton_true (s : State) : sampleButton true s = emit (.btn true) s := rfl

/-- A line at 0 is pressed: the read is recorded and then accumulated. -/
theorem sampleButton_false (s : State) : sampleButton false s = accumulate (emit (.btn false) s) := rfl

theorem accumulate_of_count {s : State} (hmode : s.btnMode = .count) : accumulate s = countPress s := by
  rw [accumulate, hmode]

theorem accumulate_of_bitmask {s : State} (hmode : s.btnMode = .bitmask) :
    accumulate s = markPress s.activeDigit s := by
  rw [accumulate, hmode]

/-- Settles O26: the state before the phase moves on is the sample itself; it splits by the level, and a pressed one by
the mode, which the recorded read leaves as it was. -/
theorem buttonIsSampledOnce : Obligations.ButtonIsSampledOnce := by
  intro s
  refine ⟨sampleButton s.inputs.btnN s, exec_btnSample s, fun hlevel => ?released, fun hlevel hmode => ?count,
    fun hlevel hmode => ?bitmask⟩
  case released =>
    rw [hlevel, sampleButton_true, emit]
  case count =>
    have hread : (emit (.btn false) s).btnMode = .count := hmode
    rw [hlevel, sampleButton_false, accumulate_of_count hread, exec_accCount, emit]
  case bitmask =>
    have hread : (emit (.btn false) s).btnMode = .bitmask := hmode
    rw [hlevel, sampleButton_false, accumulate_of_bitmask hread, exec_accBitmask, emit]

end Sys2Proof.Machine
end

section
/-! PROOFS. The tick counter (`TICK_COUNT`, rule R130): 50 ticks of `tick_int` are one of `tick_pub`. -/

namespace Sys2Proof.Machine

theorem exec_tickCount (s : State) : exec .tickCount s = .next (countTick s) := rfl

/-- Settles O12: `countTick_eq` names the two registers that `TICK_COUNT` writes, and `tickOver_iff` is the threshold
they are chosen by, the increment compared with 49. -/
theorem tickCountDividesByFifty : Obligations.TickCountDividesByFifty := by
  intro s
  rw [exec_tickCount, countTick_eq]
  simp only [tickOver_iff]

end Sys2Proof.Machine
end

section
/-! PROOFS. The latch of the shift-chain receiver (`SR_LATCH`, rule R142): the output stage becomes the shift stage. -/

namespace Sys2Proof.Machine

theorem exec_srLatch (s : State) : exec .srLatch s = .next (latchChain s) := rfl

/-- The output stage is the one component that a latch writes. -/
theorem latchChain_eq (s : State) : latchChain s = { s with out := s.sh } := rfl

/-- Settles O30: the new output stage is the shift stage as a whole (`latchChain_eq`), so they agree at every place. -/
theorem chainLatchesAtOnce : Obligations.ChainLatchesAtOnce := by
  intro s
  refine ⟨s.sh, ?completes, fun n _ => rfl⟩
  case completes =>
    rw [exec_srLatch, latchChain_eq]

end Sys2Proof.Machine
end

section
/-! PROOFS. The formats (spec 30 rules R51 to R58): decoding and encoding undo each other, and the character set. -/

namespace Sys2Proof

/-! ## Decoding a word of its format's width -/

@[simp] theorem decode_code6 (c : Code) : decode .code6 c.toNat = .ok (decodeCode6 c) := by
  simp [decode, Format.width, c.isLt]

@[simp] theorem decode_selbyte (i : BitVec 3) (v : Byte) : decode (.selbyte i) v.toNat = decodeSelbyte i v := by
  simp [decode, Format.width, v.isLt]

@[simp] theorem decode_digsel (v : Byte) : decode .digsel v.toNat = decodeDigsel v := by
  simp [decode, Format.width, v.isLt]

@[simp] theorem decode_mask16 (w : BitVec 16) : decode .mask16 w.toNat = decodeMask16 w := by
  simp [decode, Format.width, w.isLt]

/-- A number that decodes fits its format's width. -/
theorem lt_width_of_decode {f : Format} {w : Nat} {i : Instr} (h : decode f w = .ok i) : w < 2 ^ f.width := by
  by_contra hwide
  unfold decode at h
  rw [if_pos (Nat.not_lt.mp hwide)] at h
  cases h

/-- A number that decodes is a word of the format's width. -/
theorem exists_word_of_decode {f : Format} {w : Nat} {i : Instr} (h : decode f w = .ok i) :
    ∃ v : BitVec f.width, w = v.toNat :=
  ⟨BitVec.ofNat f.width w, (BitVec.toNat_ofNat w f.width ▸ Nat.mod_eq_of_lt (lt_width_of_decode h)).symm⟩

/-! ## The stored mask -/

/-- A stored word carries its mask in the low 14 bits (rule R58). -/
theorem decodeMask16_append (m : Mask) : decodeMask16 (0#2 ++ m) = .ok (.mask16 m) := by
  have hreserved : (0#2 ++ m).extractLsb' 14 2 = 0 := by
    rw [BitVec.extractLsb'_append_eq_left]
    rfl
  rw [decodeMask16, if_pos hreserved, BitVec.extractLsb'_append_eq_right]

theorem toNat_zero_append (m : Mask) : (0#2 ++ m).toNat = m.toNat := by
  rw [BitVec.toNat_append]
  simp

/-- Without its reserved bits a word is its mask. -/
theorem toNat_mask_of_reserved {w : BitVec 16} (h : w.extractLsb' 14 2 = 0) : (w.extractLsb' 0 14).toNat = w.toNat := by
  have hw := w.isLt
  have hhigh := congrArg BitVec.toNat h
  simp only [BitVec.extractLsb'_toNat, Nat.shiftRight_eq_div_pow] at hhigh ⊢
  simp at hhigh ⊢
  omega

/-! ## Decoding undoes encoding -/

theorem decode_reserved40to47 : ∀ x : BitVec 3, decode .code6 (0b101000 + x.toNat) = .ok (.reserved40to47 x) := by
  decide

theorem decode_reserved48to63 : ∀ x : BitVec 4, decode .code6 (0b110000 + x.toNat) = .ok (.reserved48to63 x) := by
  decide

/-- The byte with the one bit `bit` set is the operation of that bit, in every group that has one. -/
theorem decode_selbyte_pow {g : BitVec 3} {bit : BitVec 3} {i : Instr} (h : selbyteInstr g bit = some i) :
    decode (.selbyte g) (2 ^ bit.toNat) = .ok i := by
  have hbyte : ∀ b : BitVec 3, (BitVec.ofNat 8 (2 ^ b.toNat)).toNat = 2 ^ b.toNat ∧
      oneHotBit (BitVec.ofNat 8 (2 ^ b.toNat)) = some b := by decide
  obtain ⟨hval, hhot⟩ := hbyte bit
  rw [← hval, decode_selbyte, decodeSelbyte, hhot]
  simp only [h]

theorem decode_mask16_toNat (m : Mask) : decode .mask16 m.toNat = .ok (.mask16 m) := by
  rw [← toNat_zero_append, decode_mask16, decodeMask16_append]

theorem decode_of_encode {i : Instr} {f : Format} {w : Nat} (h : encode i = some (f, w)) : decode f w = .ok i := by
  cases i with
  | reserved40to47 x => cases h; exact decode_reserved40to47 x
  | reserved48to63 x => cases h; exact decode_reserved48to63 x
  | selbyteGroup0 | selbyteGroup1 | selbyteGroup2 | selbyteGroup3 | selbyteGroup4 =>
    cases h; exact decode_selbyte_pow rfl
  | mask16 m => cases h; exact decode_mask16_toNat m
  | ch0 | ch1 | ch2 | ch3 | ch4 | ch5 | ch6 | ch7 | ch8 | ch9 | chSpace | chA | chB | chC | chD | chE | chF | chG
  | chH | chI | chJ | chK | chL | chM | chN | chO | chP | chQ | chR | chS | chT | chU | chV | chW | chX | chY | chZ
  | chMinus | chPlus | chEquals | digsel0 | digsel1 | digsel2 | digsel3 | digsel4 | digsel5 | digsel6 | digsel7 =>
    cases h; rfl
  | _ => cases h

/-- Settles O2: `decode_of_encode`, constructor by constructor; the rows with an operand each have their own lemma. -/
theorem decodeUndoesEncode : Obligations.DecodeUndoesEncode :=
  fun _ _ _ _ hencode => decode_of_encode hencode

/-! ## Encoding undoes decoding -/

theorem encode_decodeCode6 : ∀ c : Code, encode (decodeCode6 c) = some (.code6, c.toNat) := by decide

theorem encode_of_decodeDigsel {v : Byte} {i : Instr} (h : decodeDigsel v = .ok i) :
    encode i = some (.digsel, v.toNat) := by
  unfold decodeDigsel at h
  split at h
  case h_9 => cases h
  all_goals
    next hv =>
    cases h
    rw [hv]
    rfl

theorem toNat_of_oneHotBit {v : Byte} {bit : BitVec 3} (h : oneHotBit v = some bit) : v.toNat = 2 ^ bit.toNat := by
  unfold oneHotBit at h
  split at h
  case h_9 => cases h
  all_goals
    next hv =>
    cases h
    exact hv

theorem encode_of_selbyteInstr {g bit : BitVec 3} {i : Instr} (h : selbyteInstr g bit = some i) :
    encode i = some (.selbyte g, 2 ^ bit.toNat) := by
  unfold selbyteInstr at h
  split at h
  case h_6 => cases h
  all_goals
    next hg =>
    cases h
    have hgroup := congrArg (BitVec.ofNat 3) hg
    rw [BitVec.ofNat_toNat, BitVec.setWidth_eq] at hgroup
    rw [hgroup]
    rfl

theorem encode_of_decodeSelbyte {g : BitVec 3} {v : Byte} {i : Instr} (h : decodeSelbyte g v = .ok i) :
    encode i = some (.selbyte g, v.toNat) := by
  unfold decodeSelbyte at h
  split at h
  · cases h
  next bit hhot =>
    split at h
    · cases h
    next hrow =>
      cases h
      rw [toNat_of_oneHotBit hhot]
      exact encode_of_selbyteInstr hrow

theorem encode_of_decodeMask16 {w : BitVec 16} {i : Instr} (h : decodeMask16 w = .ok i) :
    encode i = some (.mask16, w.toNat) := by
  unfold decodeMask16 at h
  split at h
  next hreserved =>
    cases h
    rw [encode, toNat_mask_of_reserved hreserved]
  · cases h

theorem encode_of_decode {f : Format} {w : Nat} {i : Instr} (h : decode f w = .ok i) : encode i = some (f, w) := by
  obtain ⟨v, rfl⟩ := exists_word_of_decode h
  cases f with
  | code6 =>
    cases (decode_code6 v).symm.trans h
    exact encode_decodeCode6 v
  | selbyte g => exact encode_of_decodeSelbyte ((decode_selbyte g v).symm.trans h)
  | digsel => exact encode_of_decodeDigsel ((decode_digsel v).symm.trans h)
  | mask16 => exact encode_of_decodeMask16 ((decode_mask16 v).symm.trans h)

/-- Settles O3: `encode_of_decode`, format by format. -/
theorem encodeUndoesDecode : Obligations.EncodeUndoesDecode :=
  fun _ _ _ hdecode => encode_of_decode hdecode

/-- Settles O1: words written out from the tables, each computed. -/
theorem tableWordsDecodeToTheirRows : Obligations.TableWordsDecodeToTheirRows := by
  unfold Obligations.TableWordsDecodeToTheirRows
  decide

/-! ## The character set -/

/-- A character's code is its place in the character set. -/
theorem charset_of_codeOfChar {ch : Char} {c : Code} (h : codeOfChar ch = some c) :
    c.toNat < 40 ∧ charOfCode c = some ch := by
  obtain ⟨n, hplace, rfl⟩ := Option.map_eq_some_iff.mp h
  obtain ⟨hn, hfound, -⟩ := List.findIdx?_eq_some_iff_getElem.mp hplace
  have hlt : n < 40 := hn
  have hval : (BitVec.ofNat 6 n).toNat = n := by simp; omega
  refine ⟨by rwa [hval], ?_⟩
  rw [charOfCode, hval, List.getElem?_eq_getElem hn]
  exact congrArg some (beq_iff_eq.mp hfound)

theorem charOfCode_of_reserved {c : Code} (h : 40 ≤ c.toNat) : charOfCode c = none :=
  List.getElem?_eq_none (Nat.le_trans (by decide) h)

/-- Settles O4: the 40 characters' codes are computed; that there are no others is `charset_of_codeOfChar`. -/
theorem charactersHaveTheirCodes : Obligations.CharactersHaveTheirCodes :=
  ⟨by decide, by decide, by decide, by decide, by decide, by decide,
    fun _ _ => charset_of_codeOfChar, fun _ => charOfCode_of_reserved⟩

/-! ## The stored font -/

namespace Machine

theorem exec_mask16 (m : Mask) (s : State) : exec (.mask16 m) s = .next { s with readout := .mask m } := rfl

/-- Settles O34: a font word is its mask under two zero bits, which `decodeMask16_append` takes off again. -/
theorem storedMasksKeepReservedBitsZero : Obligations.StoredMasksKeepReservedBitsZero := by
  refine ⟨fun c => ⟨?bit15, ?bit14, ?decodes⟩, exec_mask16⟩
  case bit15 => rw [fontWord, BitVec.getLsbD_append]; rfl
  case bit14 => rw [fontWord, BitVec.getLsbD_append]; rfl
  case decodes => rw [decode_mask16, fontWord, decodeMask16_append]

end Machine

end Sys2Proof
end

section
/-! PROOFS. The operations one by one: what each changes, in every state, and that nothing else does. -/

namespace Sys2Proof.Machine

/-! ## Entry to a step -/

theorem exec_accept (s : State) : exec .accept s = .next (enterStep s.inputs.charCode s) := rfl

theorem exec_clamp (c : Code) (s : State) : exec (.clamp c) s = .next { s with codeQ := clampCode c } := rfl

/-- The clamp with its bound as the spec writes it (rule R92). -/
theorem clampCode_eq (c : Code) : clampCode c = if c.toNat ≤ 39 then c else 10 := by
  simp only [clampCode, Config.nCodes, Config.blankCode, Nat.lt_succ_iff]

/-- Entry to a step with the tick condition as a comparison (rules R130, R157). -/
theorem enterStep_registers (c : Code) (s : State) :
    enterStep c s =
      { s with
        tickPend := false, codeQ := clampCode c, byteIdx := 0, phase := .load
        tickInt := if 49 < s.tickInt + 1 then 0 else s.tickInt + 1
        tickPub := if 49 < s.tickInt + 1 then s.tickPub + 1 else s.tickPub } := by
  rw [enterStep_eq]
  simp only [tickOver_iff]

/-- The code on the port enters through the clamp only (decision D6). -/
theorem enterStep_clampCode (c : Code) (s : State) : enterStep (clampCode c) s = enterStep c s := by
  rw [enterStep_eq, enterStep_eq, clampCode_of_legal (clampCode_lt c)]

/-- Settles O8: `enterStep_registers` for the code on the port. -/
theorem acceptEntersTheStep : Obligations.AcceptEntersTheStep := by
  intro s
  rw [exec_accept, enterStep_registers, clampCode_eq]

/-- The 40 rows are what the legal codes decode to. -/
theorem characterRows_decode : ∀ r ∈ characterRows, r.1 = decodeCode6 r.2 ∧ r.2.toNat < 40 := by decide

/-- Settles O9: each row is the decoding of its legal code, which the clamp keeps. -/
theorem characterCodesEnterTheStep : Obligations.CharacterCodesEnterTheStep := by
  intro r hr s
  obtain ⟨hrow, hlegal⟩ := characterRows_decode r hr
  rw [hrow, exec_decodeCode6, enterStep_registers, clampCode_of_legal hlegal]

theorem clampCode_reserved40to47 : ∀ x : BitVec 3, clampCode (0b101#3 ++ x) = 10 := by decide

theorem clampCode_reserved48to63 : ∀ x : BitVec 4, clampCode (0b11#2 ++ x) = 10 := by decide

/-- Settles O10: both rows enter the step with a code of their range, which the clamp makes 10. -/
theorem reservedCodesEnterTheStepAsSpace : Obligations.ReservedCodesEnterTheStepAsSpace := by
  refine ⟨fun x s => ?row40to47, fun x s => ?row48to63⟩
  case row40to47 =>
    rw [show exec (.reserved40to47 x) s = .next (enterStep (0b101#3 ++ x) s) from rfl, enterStep_registers,
      clampCode_reserved40to47]
  case row48to63 =>
    rw [show exec (.reserved48to63 x) s = .next (enterStep (0b11#2 ++ x) s) from rfl, enterStep_registers,
      clampCode_reserved48to63]

/-- Settles O13: `clampCode_eq` is the bound of the spec. -/
theorem clampKeepsLegalCodes : Obligations.ClampKeepsLegalCodes := by
  intro c s
  rw [exec_clamp, clampCode_eq]

/-! ## The pure functions -/

theorem exec_fontLookup (c : Code) (s : State) :
    exec (.fontLookup c) s = .next { s with readout := .mask (fontMask c) } := rfl

theorem fontMask_of_legal {c : Code} (h : c.toNat < 40) : fontMask c = Config.font ⟨c.toNat, h⟩ := dif_pos h

theorem fontMask_of_reserved {c : Code} (h : 40 ≤ c.toNat) : fontMask c = Config.font 10 :=
  dif_neg (Nat.not_lt.mpr h)

/-- Settles O14: the font's two cases; the two bytes are their definitions. -/
theorem pureFunctionsAnswer : Obligations.PureFunctionsAnswer := by
  refine ⟨fun c s h => ?legal, fun c s h => ?reserved, fun _ _ _ _ => rfl, fun _ _ => rfl⟩
  case legal => rw [exec_fontLookup, fontMask_of_legal h]
  case reserved => rw [exec_fontLookup, fontMask_of_reserved h]

/-! ## Loading a frame byte -/

theorem exec_load (s : State) : exec .load s = .next (loadByte (frameByte s.byteIdx s.codeQ s.activeDigit) s) := rfl

theorem frameByte_of_lt {i : BitVec 3} (h : i.toNat < 5) (c : Code) (d : Digit) : frameByte i c d = selbyte i c :=
  if_pos h

theorem frameByte_five (c : Code) (d : Digit) : frameByte 5 c d = digsel d := rfl

/-- Settles O15: byte 5 is the digit-select byte, the bytes below it are select bytes. -/
theorem loadTakesTheFrameByte : Obligations.LoadTakesTheFrameByte := by
  intro s hrange
  rw [exec_load, loadByte]
  by_cases hlast : s.byteIdx = 5
  · rw [if_pos hlast, hlast, frameByte_five, digsel]
  · have hselect : s.byteIdx.toNat < 5 :=
      Nat.lt_of_le_of_ne hrange fun h => hlast (BitVec.eq_of_toNat_eq (y := 5#3) h)
    rw [if_neg hlast, frameByte_of_lt hselect, selbyte, codeGroup, codeBit]

/-- Settles O16: row by row, each the byte of its own index. -/
theorem frameRowsLoadTheirByte : Obligations.FrameRowsLoadTheirByte := by
  refine ⟨fun r hr s => ?select, fun s => rfl⟩
  case select =>
    simp only [List.mem_cons, List.not_mem_nil, or_false] at hr
    obtain rfl | rfl | rfl | rfl | rfl := hr
    all_goals rfl

/-- Settles O17: row by row. -/
theorem selectGroupRowsLoadTheirByte : Obligations.SelectGroupRowsLoadTheirByte := by
  intro bit r hr s
  simp only [List.mem_cons, List.not_mem_nil, or_false] at hr
  obtain rfl | rfl | rfl | rfl | rfl := hr
  all_goals rfl

/-- Settles O18: row by row, each digit's byte computed. -/
theorem digitRowsLoadTheirByte : Obligations.DigitRowsLoadTheirByte := by
  intro r hr s
  simp only [List.mem_cons, List.not_mem_nil, or_false] at hr
  obtain rfl | rfl | rfl | rfl | rfl | rfl | rfl | rfl := hr
  all_goals rfl

/-! ## The pins and the chain -/

theorem exec_shiftOutByte (v : Byte) (s : State) : exec (.shiftOutByte v) s = .next (shiftOut v s) := rfl

theorem exec_clkRise (s : State) : exec .clkRise s = .next { raiseClk s with phase := .bitHold } := rfl

theorem exec_hold (s : State) : exec .hold s = .next { holdLines s with phase := phaseAfterHold s.phase } := rfl

theorem exec_latchPulse (s : State) : exec .latchPulse s = .next (pulseLatch s) := rfl

theorem exec_latchRise (s : State) : exec .latchRise s = .next { raiseLatch s with phase := .latHold } := rfl

theorem exec_latchFall (s : State) : exec .latchFall s = .next { lowerLatch s with phase := .latPost } := rfl

theorem exec_srShift (s : State) : exec .srShift s = .next (shiftChain s) := rfl

/-- The new bit stands at stage 0 (rule R141). -/
theorem shiftConcat_first (x : Chain) (b : Level) : (x.shiftConcat b).getLsbD 0 = b := by simp

/-- Every other stage takes its neighbour's bit (rule R141). -/
theorem shiftConcat_succ (x : Chain) (b : Level) {n : Nat} (hn : n < 47) :
    (x.shiftConcat b).getLsbD (n + 1) = x.getLsbD n := by
  have hstage : n + 1 < 48 := by omega
  rw [BitVec.getLsbD_shiftConcat]
  simp [hstage]

/-- A write of 1 to the clock line, from either level: the chain shifts at a rising edge only (rule R141). -/
theorem raiseClk_eq (s : State) :
    raiseClk s =
      { s with
        srClk := true, sh := if s.srClk then s.sh else s.sh.shiftConcat s.srData
        trace := s.trace ++ [.clkUp] } := by
  cases h : s.srClk
  · exact raiseClk_of_low h
  · simp [raiseClk_of_high h, emit, h]

/-- A write of 1 to the latch line, from either level: the output stage moves at a rising edge only (rule R142). -/
theorem raiseLatch_eq (s : State) :
    raiseLatch s =
      { s with
        srLatch := true, out := if s.srLatch then s.out else s.sh
        trace := s.trace ++ [.latchUp] } := by
  cases h : s.srLatch
  · exact raiseLatch_of_low h
  · simp [raiseLatch_of_high h, emit, h]

/-- Settles O19: the closed form of a byte, with its trace written out. -/
theorem shiftOutByteSendsEightBits : Obligations.ShiftOutByteSendsEightBits := by
  intro v s hlow
  rw [exec_shiftOutByte, shiftOut_of_low v hlow, byteTrace]

/-- Settles O21: the rise from a low line, and the two laws of the shift. -/
theorem clkRiseShiftsTheChain : Obligations.ClkRiseShiftsTheChain := by
  intro s hlow
  refine ⟨s.sh.shiftConcat s.srData, ?rises, shiftConcat_first _ _, fun n hn => shiftConcat_succ _ _ hn⟩
  case rises => rw [exec_clkRise, raiseClk_of_low hlow]

/-- Settles O29: the two laws of the shift. -/
theorem chainShiftsOnePlace : Obligations.ChainShiftsOnePlace :=
  fun s => ⟨s.sh.shiftConcat s.srData, exec_srShift s, shiftConcat_first _ _, fun _ hn => shiftConcat_succ _ _ hn⟩

/-- Settles O22: the four hold phases, each with its successor of the table. -/
theorem waitingOperationsOnlyWait : Obligations.WaitingOperationsOnlyWait := by
  refine ⟨fun p q hpq s hp => ?hold, fun s => rfl⟩
  case hold =>
    have hnext : phaseAfterHold p = q := by
      simp only [List.mem_cons, List.not_mem_nil, or_false, Prod.mk.injEq] at hpq
      obtain ⟨rfl, rfl⟩ | ⟨rfl, rfl⟩ | ⟨rfl, rfl⟩ | ⟨rfl, rfl⟩ := hpq
      all_goals rfl
    rw [exec_hold, hp, hnext, holdLines, emit]

/-- Settles O24: the pulse in closed form. -/
theorem latchPulseShowsTheChain : Obligations.LatchPulseShowsTheChain := by
  intro s hlow
  rw [exec_latchPulse, pulseLatch_of_low hlow]

/-- Settles O25: each line from low and from high; a fall asks nothing of the line. -/
theorem latchEdgesTakeOneCycleEach : Obligations.LatchEdgesTakeOneCycleEach := by
  refine ⟨fun s hlow => ?rise, fun s => rfl, fun s hhigh => ?latch_high, fun s hhigh => ?clock_high⟩
  case rise => rw [exec_latchRise, raiseLatch_of_low hlow]
  case latch_high => rw [exec_latchRise, raiseLatch_of_high hhigh, emit]
  case clock_high => rw [exec_clkRise, raiseClk_of_high hhigh, emit]

/-! ## The buttons -/

theorem exec_publish (s : State) : exec .publish s = .next { s with pattern := s.btnAcc, btnAcc := 0 } := rfl

/-- Marking a digit sets its bit and keeps the others (rule R122). -/
theorem getLsbD_or_digitBit (a : Byte) (d : Digit) {j : Nat} (hj : j < 8) :
    (a ||| (1#8 <<< d.toNat)).getLsbD j = (a.getLsbD j || decide (j = d.toNat)) := by
  rw [BitVec.getLsbD_or, getLsbD_one_shiftLeft hj]

/-- Settles O27: the two accumulates and the publication, register by register. -/
theorem buttonPartsTouchTheirRegisters : Obligations.ButtonPartsTouchTheirRegisters :=
  ⟨exec_accCount,
    fun d s => ⟨s.btnAcc ||| (1#8 <<< d.toNat), exec_accBitmask d s, fun _ hj => getLsbD_or_digitBit _ d hj⟩,
    exec_publish⟩

/-! ## The lines of the display -/

/-- Stream position `k` stands at stage `47 - k` (rule R144). -/
theorem latchedFrame_getLsbD (out : Chain) {k : Nat} (hk : k < 48) :
    (latchedFrame out).getLsbD k = out.getLsbD (47 - k) := by
  rw [latchedFrame, BitVec.getLsbD_reverse, BitVec.getMsbD]
  simp [hk]

theorem rowLines_getLsbD (out : Chain) {k : Nat} (hk : k < 40) : (rowLines out).getLsbD k = out.getLsbD (47 - k) := by
  rw [rowLines, BitVec.getLsbD_extractLsb', latchedFrame_getLsbD out (by omega)]
  simp [hk]

theorem digNLines_getLsbD (out : Chain) {j : Nat} (hj : j < 8) : (digNLines out).getLsbD j = out.getLsbD (7 - j) := by
  rw [digNLines, BitVec.getLsbD_extractLsb', latchedFrame_getLsbD out (by omega), show 47 - (40 + j) = 7 - j by omega]
  simp [hj]

theorem exec_digitDrive (s : State) :
    exec .digitDrive s = .next { s with readout := .digits (enabledDigits s.out) } := rfl

/-- Settles O32: a digit is enabled while its line is low, and its line is output stage `7 - j`. -/
theorem lowDigitLinesEnable : Obligations.LowDigitLinesEnable := by
  intro s
  refine ⟨_, exec_digitDrive s, fun j hj => ?_⟩
  rw [enabledDigits, BitVec.getLsbD_not, digNLines_getLsbD s.out hj]
  simp [hj]

/-- The select lines are one-hot at `k` exactly when `k` is the one high line (rule R71). -/
theorem rowLines_eq_twoPow_iff (out : Chain) {k : Nat} (hk : k < 40) :
    rowLines out = BitVec.twoPow 40 k ↔ ∀ j < 40, (out.getLsbD (47 - j) = true ↔ j = k) := by
  constructor
  · intro hrow j hj
    rw [← rowLines_getLsbD out hj, hrow, BitVec.getLsbD_twoPow]
    simp only [Bool.and_eq_true, decide_eq_true_eq]
    omega
  · intro hlines
    refine BitVec.eq_of_getLsbD_eq fun j hj => ?_
    rw [rowLines_getLsbD out hj, BitVec.getLsbD_twoPow, Bool.eq_iff_iff, hlines j hj]
    simp only [Bool.and_eq_true, decide_eq_true_eq]
    omega

theorem eq_twoPow_of_oneHotRow {row : BitVec 40} {k : Fin 40} (h : oneHotRow row = some k) :
    row = BitVec.twoPow 40 k.val := by
  simpa using List.find?_some h

/-- The selected row is the one whose line is the one high line. -/
theorem oneHotRow_twoPow (k : Fin 40) : oneHotRow (BitVec.twoPow 40 k.val) = some k := by
  cases h : oneHotRow (BitVec.twoPow 40 k.val) with
  | none =>
    have hmissed := List.find?_eq_none.mp h k (List.mem_finRange k)
    simp at hmissed
  | some j =>
    have hbit := congrArg (fun row : BitVec 40 => row.getLsbD k.val) (eq_twoPow_of_oneHotRow h)
    exact congrArg some (Fin.ext (by simpa [BitVec.getLsbD_twoPow, eq_comm] using hbit))

theorem exec_romRead (s : State) :
    exec .romRead s = .next
      { s with
        readout := .mask s.segLines
        draws := if (oneHotRow (rowLines s.out)).isSome then s.draws else s.draws + 1 } := rfl

theorem segLines_of_oneHot {s : State} {k : Fin 40} (h : oneHotRow (rowLines s.out) = some k) :
    s.segLines = Config.font k := by
  rw [State.segLines, romRead, h]

theorem segLines_of_floating {s : State} (h : oneHotRow (rowLines s.out) = none) :
    s.segLines = Config.romFloating s.cycle s.draws := by
  rw [State.segLines, romRead, h]

/-- Settles O31: the two cases of `oneHotRow`, each read through `rowLines_eq_twoPow_iff`. -/
theorem romReadSelectsTheOneHotWord : Obligations.RomReadSelectsTheOneHotWord := by
  refine ⟨fun s k hlines => ?oneHot, fun s hlines => ?floating⟩
  case oneHot =>
    have hrow : oneHotRow (rowLines s.out) = some k := by
      rw [(rowLines_eq_twoPow_iff s.out k.isLt).mpr hlines, oneHotRow_twoPow]
    rw [exec_romRead, segLines_of_oneHot hrow, hrow]
    rfl
  case floating =>
    have hrow : oneHotRow (rowLines s.out) = none := by
      by_contra hsome
      obtain ⟨k, hk⟩ := Option.ne_none_iff_exists'.mp hsome
      exact hlines ⟨k.val, k.isLt, (rowLines_eq_twoPow_iff s.out k.isLt).mp (eq_twoPow_of_oneHotRow hk)⟩
    rw [exec_romRead, segLines_of_floating hrow, hrow]
    rfl

/-! ## Reset, and that nothing stops -/

/-- Settles O35: the registers of `RESET`, by definition. -/
theorem resetTakesEveryClockedRegister : Obligations.ResetTakesEveryClockedRegister := fun _ => rfl

/-- Settles O36: the table of reset values, by definition. -/
theorem machineStartsInTheResetState : Obligations.MachineStartsInTheResetState :=
  ⟨rfl, rfl, rfl, rfl, rfl, rfl, rfl, rfl, rfl, rfl, rfl, rfl, rfl, rfl, rfl⟩

/-- Settles O37: the arm of every constructor answers a next state. -/
theorem noOperationStops : Obligations.NoOperationStops := by
  intro i s
  cases i
  all_goals exact ⟨_, rfl⟩

end Sys2Proof.Machine
end

section
/-! PROOFS. One cycle of the sequencer, phase by phase, and one observation: what each changes and what it leaves. -/

namespace Sys2Proof.Machine

/-! ## The operation of a cycle, one equation for each case (rules R98, R156) -/

section
variable {inp : Inputs} {s : State}

theorem cycleOp_reset (hrst : inp.rst = true) : cycleOp inp s = resetClocked s := by
  simp [cycleOp, hrst]

theorem cycleOp_accept (hrst : inp.rst = false) (hphase : s.phase = .idle) (hpend : s.tickPend = true) :
    cycleOp inp s = enterStep inp.charCode s := by
  simp [cycleOp, hrst, hphase, hpend]

theorem cycleOp_wait (hrst : inp.rst = false) (hphase : s.phase = .idle) (hpend : s.tickPend = false) :
    cycleOp inp s = s := by
  simp [cycleOp, hrst, hphase, hpend]

theorem cycleOp_load (hrst : inp.rst = false) (hphase : s.phase = .load) :
    cycleOp inp s = loadByte (frameByte s.byteIdx s.codeQ s.activeDigit) s := by
  simp [cycleOp, hrst, hphase]

theorem cycleOp_bitData (hrst : inp.rst = false) (hphase : s.phase = .bitData) :
    cycleOp inp s = { sendLowBit s with phase := .bitClkHi } := by
  simp [cycleOp, hrst, hphase]

theorem cycleOp_bitClkHi (hrst : inp.rst = false) (hphase : s.phase = .bitClkHi) :
    cycleOp inp s = { raiseClk s with phase := .bitHold } := by
  simp [cycleOp, hrst, hphase]

theorem cycleOp_bitHold (hrst : inp.rst = false) (hphase : s.phase = .bitHold) :
    cycleOp inp s = { holdLines s with phase := .bitClkLo } := by
  simp [cycleOp, hrst, hphase]

theorem cycleOp_bitClkLo (hrst : inp.rst = false) (hphase : s.phase = .bitClkLo) :
    cycleOp inp s = nextBit (lowerClk s) := by
  simp [cycleOp, hrst, hphase]

theorem cycleOp_latPre (hrst : inp.rst = false) (hphase : s.phase = .latPre) :
    cycleOp inp s = { holdLines s with phase := .latHi } := by
  simp [cycleOp, hrst, hphase]

theorem cycleOp_latHi (hrst : inp.rst = false) (hphase : s.phase = .latHi) :
    cycleOp inp s = { raiseLatch s with phase := .latHold } := by
  simp [cycleOp, hrst, hphase]

theorem cycleOp_latHold (hrst : inp.rst = false) (hphase : s.phase = .latHold) :
    cycleOp inp s = { holdLines s with phase := .latLo } := by
  simp [cycleOp, hrst, hphase]

theorem cycleOp_latLo (hrst : inp.rst = false) (hphase : s.phase = .latLo) :
    cycleOp inp s = { lowerLatch s with phase := .latPost } := by
  simp [cycleOp, hrst, hphase]

theorem cycleOp_latPost (hrst : inp.rst = false) (hphase : s.phase = .latPost) :
    cycleOp inp s = { holdLines s with phase := .sample } := by
  simp [cycleOp, hrst, hphase]

theorem cycleOp_sample (hrst : inp.rst = false) (hphase : s.phase = .sample) :
    cycleOp inp s = { sampleButton inp.btnN s with phase := .advance } := by
  simp [cycleOp, hrst, hphase]

theorem cycleOp_advance (hrst : inp.rst = false) (hphase : s.phase = .advance) :
    cycleOp inp s = advanceDigit s := by
  simp [cycleOp, hrst, hphase]

end

/-! ## What an operation leaves unchanged -/

/-- The registers that only the first and the last cycle of a step write. -/
structure SameStepRegisters (s t : State) : Prop where
  activeDigit : t.activeDigit = s.activeDigit
  pattern : t.pattern = s.pattern
  tickInt : t.tickInt = s.tickInt
  tickPub : t.tickPub = s.tickPub
  tickPend : t.tickPend = s.tickPend
  codeQ : t.codeQ = s.codeQ

/-- The model's own fields that no operation of a cycle writes. -/
structure SameEnvironment (s t : State) : Prop where
  btnMode : t.btnMode = s.btnMode
  script : t.script = s.script
  cycle : t.cycle = s.cycle

theorem cycleOp_sameEnvironment (inp : Inputs) (s : State) : SameEnvironment s (cycleOp inp s) := by
  unfold cycleOp
  cases inp.rst with
  | true => exact ⟨rfl, rfl, rfl⟩
  | false =>
    simp only [Bool.false_eq_true, if_false]
    cases s.phase with
    | idle => cases s.tickPend <;> simp only [enterStep_eq] <;> exact ⟨rfl, rfl, rfl⟩
    | bitClkHi => rw [raiseClk_eq]; exact ⟨rfl, rfl, rfl⟩
    | latHi => rw [raiseLatch_eq]; exact ⟨rfl, rfl, rfl⟩
    | bitClkLo => rw [nextBit_eq]; exact ⟨rfl, rfl, rfl⟩
    | sample => rw [sampleButton_eq]; exact ⟨rfl, rfl, rfl⟩
    | advance => rw [advanceDigit_eq]; exact ⟨rfl, rfl, rfl⟩
    | load | bitData | bitHold | latPre | latHold | latLo | latPost => exact ⟨rfl, rfl, rfl⟩

/-- Between its first and its last cycle a step leaves the digit, the published registers, the tick and the code. -/
theorem cycleOp_sameStepRegisters {inp : Inputs} {s : State} (hrst : inp.rst = false) (hidle : s.phase ≠ .idle)
    (hadvance : s.phase ≠ .advance) : SameStepRegisters s (cycleOp inp s) := by
  unfold cycleOp
  simp only [hrst, Bool.false_eq_true, if_false]
  cases hphase : s.phase with
  | idle => exact absurd hphase hidle
  | advance => exact absurd hphase hadvance
  | bitClkHi => rw [raiseClk_eq]; exact ⟨rfl, rfl, rfl, rfl, rfl, rfl⟩
  | latHi => rw [raiseLatch_eq]; exact ⟨rfl, rfl, rfl, rfl, rfl, rfl⟩
  | bitClkLo => rw [nextBit_eq]; exact ⟨rfl, rfl, rfl, rfl, rfl, rfl⟩
  | sample => rw [sampleButton_eq]; exact ⟨rfl, rfl, rfl, rfl, rfl, rfl⟩
  | load | bitData | bitHold | latPre | latHold | latLo | latPost => exact ⟨rfl, rfl, rfl, rfl, rfl, rfl⟩

/-! ## Which inputs an operation reads -/

/-- The code on the port enters through the clamp only. -/
theorem cycleOp_clampCode (inp : Inputs) (s : State) :
    cycleOp { inp with charCode := clampCode inp.charCode } s = cycleOp inp s := by
  simp only [cycleOp, enterStep_clampCode]

/-- Outside the accept cycle the code is not read (decision D5). -/
theorem cycleOp_charCode_of_not_accept {s : State} (h : ¬ (s.phase = .idle ∧ s.tickPend = true)) (inp : Inputs)
    (c : Code) : cycleOp { inp with charCode := c } s = cycleOp inp s := by
  cases hphase : s.phase with
  | idle =>
    have hpend : s.tickPend = false := Bool.eq_false_iff.mpr fun hpend => h ⟨hphase, hpend⟩
    simp [cycleOp, hphase, hpend]
  | _ => simp [cycleOp, hphase]

/-- Outside the SAMPLE cycle the button line is not read (decision D24). -/
theorem cycleOp_btnN_of_not_sample {s : State} (h : s.phase ≠ .sample) (inp : Inputs) (b : Level) :
    cycleOp { inp with btnN := b } s = cycleOp inp s := by
  cases hphase : s.phase with
  | sample => exact absurd hphase h
  | _ => simp [cycleOp, hphase]

/-- Settles O11: the clamp makes both codes 10. -/
theorem reservedCodeActsAsSpace : Obligations.ReservedCodeActsAsSpace := by
  intro s inp rest hreserved
  rw [step_cons_cycle, step_cons_cycle, ← cycleOp_clampCode inp, clampCode_of_reserved hreserved]
  rfl

/-- Settles O47: a step at a scripted cycle reads the code and the button through `cycleOp` only. -/
theorem inputsMatterOnlyWhenRead : Obligations.InputsMatterOnlyWhenRead := by
  refine fun s inp rest => ⟨fun hcycle c => ?code, fun hcycle b => ?button⟩
  case code =>
    rw [step_cons_cycle, step_cons_cycle, ← cycleOp_charCode_of_not_accept hcycle inp c]
    rfl
  case button =>
    rw [step_cons_cycle, step_cons_cycle, ← cycleOp_btnN_of_not_sample hcycle inp b]
    rfl

/-! ## The end of a cycle -/

theorem endCycle_of_running {inp : Inputs} (hrst : inp.rst = false) (s : State) :
    endCycle inp s =
      { s with tickPend := s.tickPend || inp.tick, script := s.script.tail, cycle := s.cycle + 1 } := by
  simp [endCycle, hrst]

/-- A step at a cycle without reset, in the terms of its operation and of the state before. -/
theorem step_running {s : State} {inp : Inputs} (hact : s.nextAct = .cycle inp) (hrst : inp.rst = false) :
    step s = .next
      { cycleOp inp s with
        tickPend := (cycleOp inp s).tickPend || inp.tick, script := s.script.tail, cycle := s.cycle + 1 } := by
  rw [step_cycle_eq hact, endCycle_of_running hrst, (cycleOp_sameEnvironment inp s).script,
    (cycleOp_sameEnvironment inp s).cycle]

/-- A step at a cycle runs the operation that the cycle fetches. -/
theorem step_of_fetched {s t : State} {inp : Inputs} (hact : s.nextAct = .cycle inp) (hrst : inp.rst = false)
    (ht : exec (fetched inp s) s = .next t) :
    step s = .next { t with tickPend := t.tickPend || inp.tick, script := t.script.tail, cycle := t.cycle + 1 } := by
  rw [step_of_cycle hact, ht, mapNext_next, endCycle_of_running hrst]

/-- Settles O40: in each phase the table's operation is `cycleOp`. -/
theorem sequencerRunsItsPhase : Obligations.SequencerRunsItsPhase := by
  intro s t inp i hact hrst hrow hexec
  have hop : exec i s = .next (cycleOp inp s) := by
    rcases hrow with ⟨hphase, rfl⟩ | hrow
    · cases hpend : s.tickPend
      · rw [cycleOp_wait hrst hphase hpend]; rfl
      · rw [cycleOp_accept hrst hphase hpend, ← inputs_of_nextAct hact]; rfl
    · simp only [List.mem_cons, List.not_mem_nil, or_false, Prod.mk.injEq] at hrow
      obtain ⟨hp, rfl⟩ | ⟨hp, rfl⟩ | ⟨hp, rfl⟩ | ⟨hp, rfl⟩ | ⟨hp, rfl⟩ | ⟨hp, rfl⟩ | ⟨hp, rfl⟩ | ⟨hp, rfl⟩ | ⟨hp, rfl⟩ |
        ⟨hp, rfl⟩ | ⟨hp, rfl⟩ | ⟨hp, rfl⟩ := hrow
      · rw [cycleOp_load hrst hp, exec_load]
      · rw [cycleOp_bitData hrst hp, exec_setData]
      · rw [cycleOp_bitClkHi hrst hp, exec_clkRise]
      · rw [cycleOp_bitHold hrst hp, exec_hold, hp, phaseAfterHold]
      · rw [cycleOp_bitClkLo hrst hp, exec_clkFall]
      · rw [cycleOp_latPre hrst hp, exec_hold, hp, phaseAfterHold]
      · rw [cycleOp_latHi hrst hp, exec_latchRise]
      · rw [cycleOp_latHold hrst hp, exec_hold, hp, phaseAfterHold]
      · rw [cycleOp_latLo hrst hp, exec_latchFall]
      · rw [cycleOp_latPost hrst hp, exec_hold, hp, phaseAfterHold]
      · rw [cycleOp_sample hrst hp, exec_btnSample, inputs_of_nextAct hact]
      · rw [cycleOp_advance hrst hp, exec_advance]
  cases hop.symm.trans hexec
  exact step_running hact hrst

/-- Settles O41: the operation of a reset cycle is the reset, and its end keeps the flag cleared. -/
theorem resetWinsOverEverything : Obligations.ResetWinsOverEverything := by
  intro s inp hact hrst
  rw [step_cycle_eq hact, cycleOp_reset hrst, endCycle, if_pos hrst]
  rfl

/-- The flag after the operation of a cycle, before the pulse is seen (rule R155). -/
theorem cycleOp_tickPend {inp : Inputs} (hrst : inp.rst = false) (s : State) :
    (cycleOp inp s).tickPend = if s.phase = .idle ∧ s.tickPend = true then false else s.tickPend := by
  by_cases hidle : s.phase = .idle
  · cases hpend : s.tickPend
    · rw [cycleOp_wait hrst hidle hpend, hpend]; simp
    · rw [cycleOp_accept hrst hidle hpend, enterStep_eq]; simp [hidle]
  · rw [if_neg fun h => hidle h.1]
    by_cases hadvance : s.phase = .advance
    · rw [cycleOp_advance hrst hadvance, advanceDigit_eq]
    · exact (cycleOp_sameStepRegisters hrst hidle hadvance).tickPend

/-- Settles O42: the flag after the operation, or a pulse. -/
theorem pendingFlagFollowsItsLaw : Obligations.PendingFlagFollowsItsLaw := by
  intro s t inp hact hrst ht
  rw [step_running hact hrst] at ht
  cases ht
  show ((cycleOp inp s).tickPend || inp.tick) = _
  rw [cycleOp_tickPend hrst]
  cases inp.tick <;> simp

/-- Settles O46: the accept writes the tick registers, the advance the digit and the pattern, no other cycle any. -/
theorem publishedRegistersChangeOnlyInTheirCycle : Obligations.PublishedRegistersChangeOnlyInTheirCycle := by
  intro s t inp hact hrst ht
  rw [step_running hact hrst] at ht
  cases ht
  show (cycleOp inp s).pattern = _ ∧ (cycleOp inp s).tickPub = _ ∧ (cycleOp inp s).activeDigit = _
  by_cases hidle : s.phase = .idle
  · cases hpend : s.tickPend
    · rw [cycleOp_wait hrst hidle hpend]; simp [hidle]
    · rw [cycleOp_accept hrst hidle hpend, enterStep_registers]; simp [hidle]
  by_cases hadvance : s.phase = .advance
  · have hdigit := advanceDigit_activeDigit s
    rw [cycleOp_advance hrst hadvance]
    refine ⟨?_, ?_, by rw [hdigit, if_pos hadvance]⟩
    · simp [advanceDigit_eq, hadvance]
    · simp [advanceDigit_eq, hadvance]
  · have hsame := cycleOp_sameStepRegisters hrst hidle hadvance
    simp [hsame.pattern, hsame.tickPub, hsame.activeDigit, hidle, hadvance]

/-! ## The decoded word -/

theorem fetched_accept {inp : Inputs} {s : State} (hrst : inp.rst = false) (hphase : s.phase = .idle)
    (hpend : s.tickPend = true) : fetched inp s = decodeCode6 inp.charCode := by
  simp [fetched, hrst, hphase, hpend]

theorem fetched_load {inp : Inputs} {s : State} (hrst : inp.rst = false) (hphase : s.phase = .load) :
    fetched inp s = loadInstr s := by
  simp [fetched, hrst, hphase]

/-- The sixth LOAD runs the row of its digit-select byte. -/
theorem loadInstr_of_decode {s : State} {i : Instr} (hbyte : s.byteIdx = 5)
    (hdecode : decodeDigsel (digsel s.activeDigit) = .ok i) : loadInstr s = i := by
  simp [loadInstr, hbyte, hdecode, Except.toOption]

/-- What a stored word decodes to reads its mask. -/
theorem exec_of_decodeMask16 {w : BitVec 16} {i : Instr} (h : decodeMask16 w = .ok i) (s : State) :
    exec i s = .next { s with readout := .mask (w.extractLsb' 0 14) } := by
  unfold decodeMask16 at h
  split at h
  · cases h
    exact exec_mask16 _ s
  · cases h

/-- Settles O38: the operation a cycle fetches is the one its word decodes to, and `exec` of it keeps the script. -/
theorem stepRunsTheDecodedWord : Obligations.StepRunsTheDecodedWord := by
  refine ⟨fun s t inp i hact hrst hphase hpend hdecode hexec => ?accept,
    fun s t inp i hact hrst hphase hbyte hdecode hexec => ?load, fun s t w i hact hdecode hexec => ?mask⟩
  case accept =>
    cases (decode_code6 _).symm.trans hdecode
    have hstep := step_of_fetched hact hrst ((fetched_accept hrst hphase hpend).symm ▸ hexec)
    cases (exec_decodeCode6 _ s).symm.trans hexec
    rw [hstep, enterStep_eq]
  case load =>
    have hrow := loadInstr_of_decode hbyte ((decode_digsel _).symm.trans hdecode)
    have hstep := step_of_fetched hact hrst ((fetched_load hrst hphase).trans hrow ▸ hexec)
    cases (hrow ▸ exec_loadInstr s).symm.trans hexec
    rw [hstep, loadByte]
  case mask =>
    have hrow := (decode_mask16 w).symm.trans hdecode
    rw [step_of_observe hact, observe_storedMask_of_ok hrow, hexec]
    cases (exec_of_decodeMask16 hrow s).symm.trans hexec
    rfl

/-! ## Observations -/

/-- Settles O43: `step_observe_cases` names the two fields that move. -/
theorem observationsChangeNothing : Obligations.ObservationsChangeNothing := by
  intro s t o hact ht
  obtain ⟨r, n, rfl⟩ := step_observe_cases hact ht
  rfl

/-- The reserved bits of a stored word, as one field (rule R58). -/
theorem reservedBits_eq_zero_iff (w : BitVec 16) :
    w.extractLsb' 14 2 = 0 ↔ w.getLsbD 15 = false ∧ w.getLsbD 14 = false := by
  constructor
  · intro h
    have hbit := fun k => congrArg (fun v : BitVec 2 => v.getLsbD k) h
    exact ⟨by simpa using hbit 1, by simpa using hbit 0⟩
  · rintro ⟨h15, h14⟩
    refine BitVec.eq_of_getLsbD_eq fun k hk => ?_
    interval_cases k
    · simpa using h14
    · simpa using h15

/-- Settles O44: a stored word decodes exactly if both bits are 0, and what decodes is its low 14 bits. -/
theorem reservedMaskBitsAreRefused : Obligations.ReservedMaskBitsAreRefused := by
  refine fun s w hact => ⟨fun hbit => ?refused, fun h15 h14 => ?read⟩
  case refused =>
    have hreserved : ¬ w.extractLsb' 14 2 = 0 := by
      rw [reservedBits_eq_zero_iff]
      rintro ⟨h15, h14⟩
      rw [h15, h14] at hbit
      simp at hbit
    rw [step_of_observe hact, observe, decodeMask16, if_neg hreserved]
    rfl
  case read =>
    have hdecode : decodeMask16 w = .ok (.mask16 (w.extractLsb' 0 14)) :=
      if_pos ((reservedBits_eq_zero_iff w).mpr ⟨h15, h14⟩)
    rw [step_of_observe hact, observe_storedMask_of_ok hdecode, exec_of_decodeMask16 hdecode]
    rfl

theorem exec_pattern8Count_of_count {s : State} (h : s.btnMode = .count) :
    exec .pattern8Count s = .next { s with readout := .count s.pattern } := by
  simp [exec, execPattern8Count, answer, h]

theorem exec_pattern8Count_of_bitmask {s : State} (h : s.btnMode = .bitmask) :
    exec .pattern8Count s = .next { s with readout := .otherFormat } := by
  simp [exec, execPattern8Count, answer, h]

theorem exec_pattern8Bitmask_of_count {s : State} (h : s.btnMode = .count) :
    exec .pattern8Bitmask s = .next { s with readout := .otherFormat } := by
  simp [exec, execPattern8Bitmask, answer, h]

theorem exec_pattern8Bitmask_of_bitmask {s : State} (h : s.btnMode = .bitmask) :
    exec .pattern8Bitmask s = .next { s with readout := .pressed s.pattern } := by
  simp [exec, execPattern8Bitmask, answer, h]

theorem busy_eq (s : State) : s.busy = decide (s.phase ≠ .idle) := by
  rw [State.busy, bne, decide_not]
  rfl

/-- Settles O33: the reads of registers by definition, the two formats by the mode, the ports by `step_of_observe`. -/
theorem readersReadTheRegisters : Obligations.ReadersReadTheRegisters := by
  refine fun s => ⟨rfl, rfl, rfl, rfl,
    fun hcount => ⟨exec_pattern8Count_of_count hcount, exec_pattern8Bitmask_of_count hcount⟩,
    fun hbits => ⟨exec_pattern8Count_of_bitmask hbits, exec_pattern8Bitmask_of_bitmask hbits⟩,
    fun hact => step_of_observe hact, fun hact => step_of_observe hact, fun hact => step_of_observe hact,
    fun hact => ?busy⟩
  case busy => rw [step_of_observe hact, ← busy_eq]; rfl

end Sys2Proof.Machine
end

section
/-! PROOFS. A placed word is what the next step runs (log entry 14). -/

namespace Sys2Proof.Machine

/-! ## The three ways a word is placed -/

/-- The levels of the cycle in which a placed code or digit byte is taken: no reset, no pulse, no press. -/
abbrev placedInputs (c : Code) : Inputs := ⟨false, false, c, true⟩

theorem withFetchWord_code (s : State) {w : Nat} (hw : w < 2 ^ 6) :
    s.withFetchWord 8 w =
      { s with
        phase := .idle, tickPend := true
        script := .cycle (placedInputs (BitVec.ofNat 6 w)) :: s.script } :=
  if_pos hw

theorem withFetchWord_digit (s : State) {w : Nat} {d : Digit} (hw : ¬ w < 2 ^ 6)
    (hd : digitOfSelect (BitVec.ofNat 8 w) = some d) :
    s.withFetchWord 8 w =
      { s with
        phase := .load, byteIdx := 5, activeDigit := d
        script := .cycle (placedInputs 10) :: s.script } := by
  simp only [State.withFetchWord, placeWord, hd, if_neg hw, if_true]

theorem withFetchWord_mask (s : State) (w : BitVec 16) :
    s.withFetchWord 16 w.toNat = { s with script := .observe (.storedMask w) :: s.script } := by
  simp [State.withFetchWord, placeWord]

/-- A byte that decodes is the digit-select byte of the digit it places. -/
theorem digitOfSelect_of_decode {v : Byte} {i : Instr} (h : decodeDigsel v = .ok i) :
    ∃ d, digitOfSelect v = some d ∧ v = digsel d := by
  unfold decodeDigsel at h
  split at h
  case h_9 => cases h
  all_goals
    next hv =>
    have hbyte := congrArg (BitVec.ofNat 8) hv
    rw [BitVec.ofNat_toNat, BitVec.setWidth_eq] at hbyte
    subst hbyte
    exact ⟨_, rfl, rfl⟩

/-- A cycle with the placed levels, from a state with the script entry still before it. -/
theorem step_placed {s u : State} {c : Code} {rest : List Act} (hscript : s.script = .cycle (placedInputs c) :: rest)
    (hexec : exec (fetched (placedInputs c) s) s = .next u) (hsame : u.script = s.script) (hcycle : u.cycle = s.cycle) :
    step s = .next { u with script := rest, cycle := s.cycle + 1 } := by
  rw [step_of_fetched (nextAct_cons hscript) rfl hexec, hsame, hscript, hcycle, Bool.or_false, List.tail_cons]

theorem decode_of_toOption {f : Format} {w : Nat} {i : Instr} (h : (decode f w).toOption = some i) :
    decode f w = .ok i := by
  cases hdecode : decode f w with
  | error r => rw [hdecode] at h; cases h
  | ok j => rw [hdecode] at h; cases h; rfl

theorem placedCode_runs (s : State) (c : Code) :
    ∃ u, exec (decodeCode6 c) (s.withFetchWord 8 c.toNat) = .next u ∧
      step (s.withFetchWord 8 c.toNat) = .next { u with script := s.script, cycle := s.cycle + 1 } := by
  rw [withFetchWord_code s c.isLt, BitVec.ofNat_toNat, BitVec.setWidth_eq]
  exact ⟨_, exec_decodeCode6 c _, step_placed rfl (exec_decodeCode6 c _) (by rw [enterStep_eq]) (by rw [enterStep_eq])⟩

theorem placedDigit_runs (s : State) {v : Byte} {i : Instr} (hv : ¬ v.toNat < 2 ^ 6) (h : decodeDigsel v = .ok i) :
    ∃ u, exec i (s.withFetchWord 8 v.toNat) = .next u ∧
      step (s.withFetchWord 8 v.toNat) = .next { u with script := s.script, cycle := s.cycle + 1 } := by
  obtain ⟨d, hplace, rfl⟩ := digitOfSelect_of_decode h
  rw [withFetchWord_digit s hv (by rwa [BitVec.ofNat_toNat, BitVec.setWidth_eq])]
  have hexec := fun t => (congrArg (fun r => exec (Option.getD (Except.toOption r) .frameB5) t) h).symm.trans
    (exec_digselInstr d t)
  exact ⟨_, hexec _, step_placed rfl (exec_digselInstr d _) rfl rfl⟩

theorem placedMask_runs (s : State) {w : BitVec 16} {i : Instr} (h : decodeMask16 w = .ok i) :
    ∃ u, exec i (s.withFetchWord 16 w.toNat) = .next u ∧
      step (s.withFetchWord 16 w.toNat) = .next { u with script := s.script, cycle := s.cycle } := by
  rw [withFetchWord_mask]
  refine ⟨_, exec_of_decodeMask16 h _, ?_⟩
  rw [step_of_observe (nextAct_cons rfl), observe_storedMask_of_ok h, exec_of_decodeMask16 h]
  rfl

/-- Settles O39: a code, a digit-select byte or a stored mask, each placed and then fetched. -/
theorem placedWordRunsNext : Obligations.PlacedWordRunsNext := by
  intro s nbits w i hdecode
  unfold decodeTableWord at hdecode
  split at hdecode
  next h8 =>
    subst h8
    split at hdecode
    next hw =>
      obtain ⟨c, rfl⟩ := exists_word_of_decode (decode_of_toOption hdecode)
      cases (decode_code6 c).symm.trans (decode_of_toOption hdecode)
      exact placedCode_runs s c
    next hw =>
      obtain ⟨v, rfl⟩ := exists_word_of_decode (decode_of_toOption hdecode)
      exact placedDigit_runs s hw ((decode_digsel v).symm.trans (decode_of_toOption hdecode))
  next h8 =>
    split at hdecode
    next h16 =>
      subst h16
      obtain ⟨v, rfl⟩ := exists_word_of_decode (decode_of_toOption hdecode)
      exact placedMask_runs s ((decode_mask16 v).symm.trans (decode_of_toOption hdecode))
    · cases hdecode

end Sys2Proof.Machine
end

section
/-! PROOFS. The frame bit by bit, and the two invariants: of the sequencer, and of the chain. -/

namespace Sys2Proof.Machine

/-! ## The frame, bit by bit (rules R36, R56) -/

/-- Byte `i` stands at the stream positions from `8 i`. -/
theorem frame48_getLsbD_byte (c : Code) (d : Digit) {i : BitVec 3} (hi : i.toNat ≤ 5) {j : Nat} (hj : j < 8) :
    (frame48 c d).getLsbD (8 * i.toNat + j) = (frameByte i c d).getLsbD j := by
  obtain ⟨m, hm, rfl⟩ : ∃ m ≤ 5, i = BitVec.ofNat 3 m := ⟨i.toNat, hi, by simp⟩
  rw [BitVec.toNat_ofNat, Nat.mod_eq_of_lt (by omega : m < 2 ^ 3)]
  simp only [frame48, BitVec.getLsbD_append]
  interval_cases m
  all_goals
    simp (disch := omega) only [if_neg, if_pos, Nat.sub_sub, Nat.reduceAdd, Nat.reduceMul, Nat.add_sub_cancel_left,
      Nat.zero_add]
    rfl

/-- In the positions of the select bytes the code's bit is 1 (rule R54); in those of the digit byte the digit's is 0. -/
theorem frame48_getLsbD (c : Code) (d : Digit) {k : Nat} (hk : k < 48) :
    (frame48 c d).getLsbD k = if k < 40 then decide (k = c.toNat) else decide (k - 40 ≠ d.toNat) := by
  have hi : (BitVec.ofNat 3 (k / 8)).toNat = k / 8 := by
    rw [BitVec.toNat_ofNat]
    omega
  have hj : k % 8 < 8 := Nat.mod_lt k (by decide)
  have hbyte := frame48_getLsbD_byte c d (i := BitVec.ofNat 3 (k / 8)) (by omega) hj
  rw [hi, Nat.div_add_mod] at hbyte
  rw [hbyte]
  split
  next hselect =>
    rw [frameByte_of_lt (by omega), selbyte_getLsbD _ c hj, hi, Nat.div_add_mod]
  next hdigit =>
    have h5 : k / 8 = 5 := by omega
    rw [h5, show frameByte (BitVec.ofNat 3 5) c d = digsel d from rfl, digsel_getLsbD d hj,
      show k - 40 = k % 8 by omega]

/-- Settles O7: `frame48_getLsbD`, as an equivalence. -/
theorem frameInClosedForm : Obligations.FrameInClosedForm := by
  intro c d _ k hk
  rw [frame48_getLsbD c d hk]
  split <;> simp only [decide_eq_true_iff] <;> omega

/-! ## The sequencer's invariant -/

/-- Each rise and each fall of a line goes with the phases that the line follows. -/
theorem cycleOp_linesFollowPhase {inp : Inputs} {s : State} (hrst : inp.rst = false) (h : LinesFollowPhase s) :
    LinesFollowPhase (cycleOp inp s) := by
  obtain ⟨hclk, hlatch⟩ := h
  cases hphase : s.phase with
  | idle =>
    cases hpend : s.tickPend
    · rw [cycleOp_wait hrst hphase hpend]; exact ⟨hclk, hlatch⟩
    · rw [cycleOp_accept hrst hphase hpend, enterStep_eq]; simp_all [LinesFollowPhase]
  | bitClkHi => rw [cycleOp_bitClkHi hrst hphase, raiseClk_eq]; simp_all [LinesFollowPhase]
  | bitClkLo =>
    rw [cycleOp_bitClkLo hrst hphase, nextBit_eq]
    simp only [LinesFollowPhase]
    split_ifs <;> simp_all
  | latHi => rw [cycleOp_latHi hrst hphase, raiseLatch_eq]; simp_all [LinesFollowPhase]
  | sample => rw [cycleOp_sample hrst hphase, sampleButton_eq]; simp_all [LinesFollowPhase]
  | advance => rw [cycleOp_advance hrst hphase, advanceDigit_eq]; simp_all [LinesFollowPhase]
  | load | bitData | bitHold | latPre | latHold | latLo | latPost =>
    simp_all [cycleOp, LinesFollowPhase, loadByte]

/-- `tick_int` counts from 0 to 49 (rule R130). -/
theorem tickInt_step_le (t : BitVec 16) : (if 49 < t + 1 then 0 else t + 1).toNat ≤ 49 := by
  split <;> bv_omega

/-- The three ways of the loop control: to the next bit, to the next byte, to the latch (rules R84, R98). -/
theorem nextBit_cases {s : State} (hbyte : s.byteIdx.toNat ≤ 5) :
    (s.bitIdx.toNat < 7 ∧ (s.bitIdx + 1).toNat = s.bitIdx.toNat + 1 ∧
      nextBit s = { s with bitIdx := s.bitIdx + 1, phase := .bitData }) ∨
    (s.bitIdx.toNat = 7 ∧ s.byteIdx.toNat < 5 ∧ (s.byteIdx + 1).toNat = s.byteIdx.toNat + 1 ∧
      nextBit s = { s with byteIdx := s.byteIdx + 1, phase := .load }) ∨
    (s.bitIdx = 7 ∧ s.byteIdx = 5 ∧ nextBit s = { s with phase := .latPre }) := by
  unfold nextBit
  by_cases hbit : s.bitIdx = 7
  · by_cases hlast : s.byteIdx = 5
    · exact .inr (.inr ⟨hbit, hlast, by simp only [hbit, hlast, ne_eq, not_true, if_false]⟩)
    · refine .inr (.inl ⟨congrArg BitVec.toNat hbit, by bv_omega, by bv_omega, ?_⟩)
      simp only [hbit, hlast, ne_eq, not_true, not_false_iff, if_false, if_true]
  · exact .inl ⟨by bv_omega, by bv_omega, if_pos hbit⟩

/-- The loop control stops at byte 5 (rule R98). -/
theorem nextBit_byteIdx_le {s : State} (h : s.byteIdx.toNat ≤ 5) : (nextBit s).byteIdx.toNat ≤ 5 := by
  obtain ⟨-, -, hnext⟩ | ⟨-, hmore, hsucc, hnext⟩ | ⟨-, -, hnext⟩ := nextBit_cases h
  · rwa [hnext]
  · rw [hnext, hsucc]; exact hmore
  · rwa [hnext]

theorem cycleOp_byteIdx_le {inp : Inputs} {s : State} (hrst : inp.rst = false) (h : s.byteIdx.toNat ≤ 5) :
    (cycleOp inp s).byteIdx.toNat ≤ 5 := by
  cases hphase : s.phase with
  | idle =>
    cases hpend : s.tickPend
    · rwa [cycleOp_wait hrst hphase hpend]
    · rw [cycleOp_accept hrst hphase hpend, enterStep_eq]; exact Nat.zero_le 5
  | bitClkHi => rw [cycleOp_bitClkHi hrst hphase, raiseClk_eq]; exact h
  | bitClkLo => rw [cycleOp_bitClkLo hrst hphase]; exact nextBit_byteIdx_le h
  | latHi => rw [cycleOp_latHi hrst hphase, raiseLatch_eq]; exact h
  | sample => rw [cycleOp_sample hrst hphase, sampleButton_eq]; exact h
  | advance => rw [cycleOp_advance hrst hphase, advanceDigit_eq]; exact h
  | load | bitData | bitHold | latPre | latHold | latLo | latPost =>
    simpa [cycleOp, hrst, hphase, loadByte] using h

theorem cycleOp_countersInRange {inp : Inputs} {s : State} (hrst : inp.rst = false) (h : CountersInRange s) :
    CountersInRange (cycleOp inp s) := by
  obtain ⟨htick, hbyte, hcode⟩ := h
  have hbyte' := cycleOp_byteIdx_le hrst hbyte
  by_cases hidle : s.phase = .idle
  · cases hpend : s.tickPend
    · rw [cycleOp_wait hrst hidle hpend]; exact ⟨htick, hbyte, hcode⟩
    · rw [cycleOp_accept hrst hidle hpend] at hbyte' ⊢
      refine ⟨?tick, hbyte', ?code⟩
      case tick => rw [enterStep_registers]; exact tickInt_step_le _
      case code => rw [enterStep_registers]; exact Nat.le_of_lt_succ (clampCode_lt _)
  by_cases hadvance : s.phase = .advance
  · rw [cycleOp_advance hrst hadvance, advanceDigit_eq]; exact ⟨htick, hbyte, hcode⟩
  · have hsame := cycleOp_sameStepRegisters hrst hidle hadvance
    rw [CountersInRange, hsame.tickInt, hsame.codeQ]
    exact ⟨htick, hbyte', hcode⟩

/-! ## The button bounds (rule R125) -/

/-- The bound of rule R125 on an accumulator after `n` samples of the cycle. -/
def AccBound : BtnMode → Nat → Byte → Prop
  | .count, n, a => a.toNat ≤ n
  | .bitmask, n, a => a >>> n = 0

theorem accBound_zero (m : BtnMode) (n : Nat) : AccBound m n 0 := by
  cases m with
  | count => exact Nat.zero_le n
  | bitmask => exact BitVec.zero_ushiftRight

/-- The bounds as the invariant states them. -/
theorem buttonsInRange_iff (s : State) :
    ButtonsInRange s ↔ AccBound s.btnMode (sampledDigits s) s.btnAcc ∧ (s.btnMode = .count → s.pattern.toNat ≤ 8) := by
  cases h : s.btnMode <;> simp [ButtonsInRange, AccBound, h]

/-- In mode BITMASK a sample sets at most the bit of its own digit. -/
theorem or_digitBit_ushiftRight {a : Byte} {d : Digit} (h : a >>> d.toNat = 0) :
    (a ||| (1#8 <<< d.toNat)) >>> (d.toNat + 1) = 0 := by
  have hbit : ∀ d : Digit, (1#8 <<< d.toNat) >>> (d.toNat + 1) = 0 := by decide
  rw [BitVec.ushiftRight_or_distrib, BitVec.shiftRight_add, h, hbit d]
  rfl

/-- One sample more, and the bound is one digit further (rules R120 to R122). -/
theorem accBound_sampleButton (b : Level) {s : State} (h : AccBound s.btnMode s.activeDigit.toNat s.btnAcc) :
    AccBound s.btnMode (s.activeDigit.toNat + 1) (sampleButton b s).btnAcc := by
  have hdigit := s.activeDigit.isLt
  rw [sampleButton_eq]
  cases hmode : s.btnMode with
  | count =>
    rw [hmode] at h
    simp only [AccBound] at h ⊢
    split <;> bv_omega
  | bitmask =>
    rw [hmode] at h
    simp only [AccBound] at h ⊢
    split
    · rw [BitVec.shiftRight_add, h]; rfl
    · exact or_digitBit_ushiftRight h

theorem sampledDigits_of_ne_advance {s : State} (h : s.phase ≠ .advance) : sampledDigits s = s.activeDigit.toNat := by
  cases hphase : s.phase with
  | advance => exact absurd hphase h
  | _ => simp only [sampledDigits, hphase]

theorem sampledDigits_of_advance {s : State} (h : s.phase = .advance) : sampledDigits s = s.activeDigit.toNat + 1 := by
  simp only [sampledDigits, h]

/-- Before its SAMPLE cycle a step leaves the accumulator, and is not yet at its last cycle. -/
theorem cycleOp_before_sample {inp : Inputs} {s : State} (hrst : inp.rst = false) (hsample : s.phase ≠ .sample)
    (hadvance : s.phase ≠ .advance) : (cycleOp inp s).btnAcc = s.btnAcc ∧ (cycleOp inp s).phase ≠ .advance := by
  cases hphase : s.phase with
  | sample => exact absurd hphase hsample
  | advance => exact absurd hphase hadvance
  | idle =>
    cases hpend : s.tickPend
    · rw [cycleOp_wait hrst hphase hpend]; exact ⟨rfl, hadvance⟩
    · rw [cycleOp_accept hrst hphase hpend, enterStep_eq]; exact ⟨rfl, nofun⟩
  | bitClkHi => rw [cycleOp_bitClkHi hrst hphase, raiseClk_eq]; exact ⟨rfl, nofun⟩
  | bitClkLo =>
    rw [cycleOp_bitClkLo hrst hphase, nextBit_eq]
    refine ⟨rfl, ?_⟩
    dsimp only
    split_ifs <;> nofun
  | latHi => rw [cycleOp_latHi hrst hphase, raiseLatch_eq]; exact ⟨rfl, nofun⟩
  | load | bitData | bitHold | latPre | latHold | latLo | latPost =>
    simp [cycleOp, hrst, hphase, loadByte]

theorem cycleOp_buttonsInRange {inp : Inputs} {s : State} (hrst : inp.rst = false) (h : ButtonsInRange s) :
    ButtonsInRange (cycleOp inp s) := by
  rw [buttonsInRange_iff] at h ⊢
  obtain ⟨hacc, hpattern⟩ := h
  by_cases hadvance : s.phase = .advance
  · rw [sampledDigits_of_advance hadvance] at hacc
    rw [cycleOp_advance hrst hadvance]
    by_cases hlast : s.activeDigit = 7
    · rw [advanceDigit_of_last hlast]
      refine ⟨accBound_zero _ _, fun hcount => ?_⟩
      rw [hlast, show s.btnMode = .count from hcount] at hacc
      exact hacc
    · rw [advanceDigit_of_inner hlast]
      have hnext : (s.activeDigit + 1).toNat = s.activeDigit.toNat + 1 := by bv_omega
      refine ⟨?_, hpattern⟩
      rw [sampledDigits_of_ne_advance, hnext]
      · exact hacc
      · nofun
  rw [sampledDigits_of_ne_advance hadvance] at hacc
  rw [(cycleOp_sameEnvironment inp s).btnMode]
  by_cases hsample : s.phase = .sample
  · rw [cycleOp_sample hrst hsample, sampledDigits_of_advance rfl]
    have hmoved := accBound_sampleButton inp.btnN hacc
    rw [sampleButton_eq] at hmoved ⊢
    exact ⟨hmoved, hpattern⟩
  obtain ⟨hkept, hnot⟩ := cycleOp_before_sample hrst hsample hadvance
  rw [sampledDigits_of_ne_advance hnot, hkept]
  by_cases hidle : s.phase = .idle
  · cases hpend : s.tickPend
    · rw [cycleOp_wait hrst hidle hpend]; exact ⟨hacc, hpattern⟩
    · rw [cycleOp_accept hrst hidle hpend, enterStep_eq]; exact ⟨hacc, hpattern⟩
  · have hsame := cycleOp_sameStepRegisters hrst hidle hadvance
    rw [hsame.activeDigit, hsame.pattern]
    exact ⟨hacc, hpattern⟩

/-! ## Every step keeps the sequencer's invariant -/

theorem resetClocked_inv (s : State) : Inv (resetClocked s) := by
  refine ⟨⟨by simp, by simp⟩, ⟨by simp, by simp, by simp⟩, ?buttons⟩
  case buttons =>
    rw [buttonsInRange_iff]
    exact ⟨accBound_zero _ _, fun _ => Nat.zero_le 8⟩

theorem cycleOp_inv (inp : Inputs) {s : State} (h : Inv s) : Inv (cycleOp inp s) := by
  cases hrst : inp.rst with
  | true => rw [cycleOp_reset hrst]; exact resetClocked_inv s
  | false =>
    obtain ⟨hlines, hcounters, hbuttons⟩ := h
    exact ⟨cycleOp_linesFollowPhase hrst hlines, cycleOp_countersInRange hrst hcounters,
      cycleOp_buttonsInRange hrst hbuttons⟩

/-- A predicate that the operation of every cycle keeps is kept by every step, if neither the end of a cycle nor an
observation matters to it. -/
theorem step_keeps {P : State → Prop} (hop : ∀ inp s, P s → P (cycleOp inp s))
    (hend : ∀ inp s, P s → P (endCycle inp s))
    (hobserve : ∀ (s : State) r n l, P s → P { s with readout := r, draws := n, script := l })
    {s t : State} (hs : P s) (ht : step s = .next t) : P t := by
  cases hact : s.nextAct with
  | cycle inp =>
    rw [step_cycle_eq hact] at ht
    cases ht
    exact hend inp _ (hop inp s hs)
  | observe o =>
    obtain ⟨r, n, rfl⟩ := step_observe_cases hact ht
    exact hobserve s r n _ hs

/-- Settles O48: the operation of every cycle keeps the invariant (`cycleOp_inv`), and nothing else of a step touches
what it reads. -/
theorem stepKeepsTheSequencerInvariant : Obligations.StepKeepsTheSequencerInvariant := fun _ _ hs ht =>
  step_keeps (P := Inv) (fun inp _ => cycleOp_inv inp) (fun _ _ h => h) (fun _ _ _ _ h => h) hs ht

/-! ## The chain's invariant -/

/-- The chain's part of the invariant, beside the sequencer's. -/
abbrev ChainInv (s : State) : Prop := ShiftProgress s ∧ DrainProgress s ∧ LatchedThisStep s

/-- The bits sent stay where they are while the chain, the frame and their number do. -/
theorem ShiftProgress.of_same {s t : State} (h : ShiftProgress s) (hsh : t.sh = s.sh)
    (hframe : stepFrame t = stepFrame s) (hsent : bitsSent t = bitsSent s) : ShiftProgress t := by
  intro k hk
  rw [hsent] at hk ⊢
  rw [hsh, hframe]
  exact h k hk

/-- The bit that is clocked in is the next of the frame (rules R141, R143). -/
theorem ShiftProgress.clocked {s t : State} (h : ShiftProgress s) (hroom : bitsSent s < 48)
    (hbit : s.srData = (stepFrame s).getLsbD (bitsSent s)) (hsh : t.sh = s.sh.shiftConcat s.srData)
    (hframe : stepFrame t = stepFrame s) (hsent : bitsSent t = bitsSent s + 1) : ShiftProgress t := by
  intro k hk
  rw [hsent] at hk ⊢
  rw [hsh, hframe, Nat.add_sub_cancel]
  rcases Nat.lt_succ_iff_lt_or_eq.mp hk with hearlier | rfl
  · rw [show bitsSent s - k = (bitsSent s - 1 - k) + 1 by omega, shiftConcat_succ _ _ (by omega)]
    exact h k hearlier
  · rw [Nat.sub_self, shiftConcat_first, hbit]

end Sys2Proof.Machine
end

section
/-! PROOFS. Every step keeps the invariant of the chain, and what that says of the display. -/

namespace Sys2Proof.Machine

/-- While no bit of the step is sent yet there is nothing to show. -/
theorem ShiftProgress.of_none {s : State} (h : bitsSent s = 0) : ShiftProgress s :=
  fun k hk => absurd (h ▸ hk) (Nat.not_lt_zero k)

theorem loadByte_chainInv {s : State} (hphase : s.phase = .load) (h : ChainInv s) :
    ChainInv (loadByte (frameByte s.byteIdx s.codeQ s.activeDigit) s) := by
  obtain ⟨hshift, -, -⟩ := h
  refine ⟨hshift.of_same rfl rfl ?sent, ?drain, trivial⟩
  case sent => simp [bitsSent, hphase, loadByte]
  case drain => simp [DrainProgress, loadByte]

/-- The low bit of what is left of a byte is the frame's next bit (rules R56, R81). -/
theorem frame_bit_of_drained {s : State} (hbyte : s.byteIdx.toNat ≤ 5)
    (hdrain : s.shreg = frameByte s.byteIdx s.codeQ s.activeDigit >>> s.bitIdx.toNat) :
    s.shreg.getLsbD 0 = (stepFrame s).getLsbD (8 * s.byteIdx.toNat + s.bitIdx.toNat) := by
  rw [stepFrame, frame48_getLsbD_byte _ _ hbyte s.bitIdx.isLt, hdrain, BitVec.getLsbD_ushiftRight, Nat.add_zero]

theorem sendLowBit_chainInv {s : State} (hphase : s.phase = .bitData) (hbyte : s.byteIdx.toNat ≤ 5) (h : ChainInv s) :
    ChainInv { sendLowBit s with phase := .bitClkHi } := by
  obtain ⟨hshift, hdrain, -⟩ := h
  simp only [DrainProgress, hphase] at hdrain
  refine ⟨hshift.of_same rfl rfl ?sent, ⟨?rest, frame_bit_of_drained hbyte hdrain⟩, trivial⟩
  case sent => simp only [bitsSent, hphase]; rfl
  case rest =>
    show s.shreg >>> 1 = _
    rw [hdrain, ← BitVec.shiftRight_add]
    rfl

theorem raiseClk_chainInv {s : State} (hphase : s.phase = .bitClkHi) (hbyte : s.byteIdx.toNat ≤ 5)
    (hlow : s.srClk = false) (h : ChainInv s) : ChainInv { raiseClk s with phase := .bitHold } := by
  obtain ⟨hshift, hdrain, -⟩ := h
  have hbit := s.bitIdx.isLt
  have hsent : bitsSent s = 8 * s.byteIdx.toNat + s.bitIdx.toNat := by simp only [bitsSent, hphase]
  simp only [DrainProgress, hphase] at hdrain
  obtain ⟨hrest, hdata⟩ := hdrain
  rw [raiseClk_of_low hlow]
  refine ⟨hshift.clocked ?room ?bit rfl rfl ?sent, hrest, trivial⟩
  case room => omega
  case bit => rw [hdata, hsent]
  case sent => rw [hsent]; rfl

theorem nextBit_chainInv {s : State} (hphase : s.phase = .bitClkLo) (hbyte : s.byteIdx.toNat ≤ 5) (h : ChainInv s) :
    ChainInv (nextBit (lowerClk s)) := by
  obtain ⟨hshift, hdrain, -⟩ := h
  simp only [DrainProgress, hphase] at hdrain
  have hsent : bitsSent s = 8 * s.byteIdx.toNat + s.bitIdx.toNat + 1 := by simp only [bitsSent, hphase]
  obtain ⟨-, hsucc, hnext⟩ | ⟨hbit, -, hsucc, hnext⟩ | ⟨hbit, hend, hnext⟩ := nextBit_cases (s := lowerClk s) hbyte
  · rw [hnext]
    refine ⟨hshift.of_same rfl rfl ?_, ?_, trivial⟩
    · rw [hsent]; simp only [bitsSent, hsucc]; rfl
    · simp only [DrainProgress, hsucc]; exact hdrain
  · rw [hnext]
    refine ⟨hshift.of_same rfl rfl ?_, trivial, trivial⟩
    rw [hsent, show s.bitIdx.toNat = 7 from hbit]; simp only [bitsSent, hsucc]; rfl
  · rw [hnext]
    refine ⟨hshift.of_same rfl rfl ?_, trivial, trivial⟩
    rw [hsent, show s.bitIdx = 7 from hbit, show s.byteIdx = 5 from hend]; rfl

/-- Every operation of a cycle without reset keeps the chain's invariant. -/
theorem cycleOp_chainInv {inp : Inputs} {s : State} (hrst : inp.rst = false) (hinv : Inv s) (h : ChainInv s) :
    ChainInv (cycleOp inp s) := by
  obtain ⟨⟨hclk, hlatch⟩, ⟨-, hbyte, -⟩, -⟩ := hinv
  have ⟨hshift, hdrain, hlatched⟩ := h
  cases hphase : s.phase with
  | idle =>
    cases hpend : s.tickPend
    · rwa [cycleOp_wait hrst hphase hpend]
    · rw [cycleOp_accept hrst hphase hpend, enterStep_eq]
      exact ⟨.of_none rfl, trivial, trivial⟩
  | load => rw [cycleOp_load hrst hphase]; exact loadByte_chainInv hphase h
  | bitData => rw [cycleOp_bitData hrst hphase]; exact sendLowBit_chainInv hphase hbyte h
  | bitClkHi =>
    have hlow : s.srClk = false := by simpa [hphase] using hclk
    rw [cycleOp_bitClkHi hrst hphase]; exact raiseClk_chainInv hphase hbyte hlow h
  | bitHold =>
    simp only [DrainProgress, hphase] at hdrain
    rw [cycleOp_bitHold hrst hphase]
    exact ⟨hshift.of_same rfl rfl (by simp only [bitsSent, hphase]; rfl), hdrain, trivial⟩
  | bitClkLo => rw [cycleOp_bitClkLo hrst hphase]; exact nextBit_chainInv hphase hbyte h
  | latPre =>
    rw [cycleOp_latPre hrst hphase]
    exact ⟨hshift.of_same rfl rfl (by simp only [bitsSent, hphase]), trivial, trivial⟩
  | latHi =>
    have hlow : s.srLatch = false := by simpa [hphase] using hlatch
    rw [cycleOp_latHi hrst hphase, raiseLatch_of_low hlow]
    exact ⟨hshift.of_same rfl rfl (by simp only [bitsSent, hphase]), trivial, rfl⟩
  | latHold =>
    simp only [LatchedThisStep, hphase] at hlatched
    rw [cycleOp_latHold hrst hphase]
    exact ⟨hshift.of_same rfl rfl (by simp only [bitsSent, hphase]), trivial, hlatched⟩
  | latLo =>
    simp only [LatchedThisStep, hphase] at hlatched
    rw [cycleOp_latLo hrst hphase]
    exact ⟨hshift.of_same rfl rfl (by simp only [bitsSent, hphase]), trivial, hlatched⟩
  | latPost =>
    simp only [LatchedThisStep, hphase] at hlatched
    rw [cycleOp_latPost hrst hphase]
    exact ⟨hshift.of_same rfl rfl (by simp only [bitsSent, hphase]), trivial, hlatched⟩
  | sample =>
    simp only [LatchedThisStep, hphase] at hlatched
    rw [cycleOp_sample hrst hphase, sampleButton_eq]
    exact ⟨hshift.of_same rfl rfl (by simp only [bitsSent, hphase]), trivial, hlatched⟩
  | advance => rw [cycleOp_advance hrst hphase, advanceDigit_eq]; exact ⟨.of_none rfl, trivial, trivial⟩

theorem cycleOp_scanInv (inp : Inputs) {s : State} (h : ScanInv s) : ScanInv (cycleOp inp s) := by
  obtain ⟨hinv, hchain⟩ := h
  refine ⟨cycleOp_inv inp hinv, ?_⟩
  cases hrst : inp.rst with
  | true => rw [cycleOp_reset hrst]; exact ⟨.of_none rfl, trivial, trivial⟩
  | false => exact cycleOp_chainInv hrst hinv hchain

/-- Settles O49: the operation of every cycle keeps the invariant (`cycleOp_scanInv`), and nothing else of a step
touches what it reads. -/
theorem stepKeepsTheChainInvariant : Obligations.StepKeepsTheChainInvariant := fun _ _ hs ht =>
  step_keeps (P := ScanInv) (fun inp _ => cycleOp_scanInv inp) (fun _ _ h => h) (fun _ _ _ _ h => h) hs ht

/-- Settles O50: both lines are low, the counters are 0, and no bit of a step is sent. -/
theorem resetMeetsTheInvariants : Obligations.ResetMeetsTheInvariants :=
  ⟨resetClocked_inv State.reset, .of_none rfl, trivial, trivial⟩

/-! ## What is latched -/

/-- When all 48 bits are sent the shift stage holds the step's frame (rule R146). -/
theorem latchedFrame_of_all_sent {s : State} (h : ShiftProgress s) (hsent : bitsSent s = 48) :
    latchedFrame s.sh = stepFrame s := by
  refine BitVec.eq_of_getLsbD_eq fun k hk => ?_
  rw [latchedFrame_getLsbD _ hk]
  have hbit := h k (hsent ▸ hk)
  rwa [hsent] at hbit

/-- What the `L+` of a step puts on the lines. -/
theorem raisesLatch_shows_frame {inp : Inputs} {s : State} (hscan : ScanInv s) (hraise : RaisesLatch inp s) :
    latchedFrame (cycleOp inp s).out = frame48 s.codeQ s.activeDigit := by
  obtain ⟨⟨⟨-, hlatch⟩, -⟩, hshift, -⟩ := hscan
  have hphase := hraise.2
  have hlow : s.srLatch = false := by simpa [hphase] using hlatch
  rw [cycleOp_of_raisesLatch hraise, raiseLatch_of_low hlow]
  exact latchedFrame_of_all_sent hshift (by simp only [bitsSent, hphase])

/-- Settles O51: a cycle that raises the latch line shows the frame of its step, and every other step leaves the output
stage. -/
theorem displayStaysWhole : Obligations.DisplayStaysWhole := by
  intro s t hscan hwhole ht
  cases hact : s.nextAct with
  | observe o =>
    obtain ⟨r, n, rfl⟩ := step_observe_cases hact ht
    exact hwhole
  | cycle inp =>
    rw [step_cycle_eq hact] at ht
    cases ht
    by_cases hraise : RaisesLatch inp s
    · have hshown := raisesLatch_shows_frame hscan hraise
      obtain ⟨⟨-, ⟨-, -, hcode⟩, -⟩, -⟩ := hscan
      exact ⟨s.codeQ, s.activeDigit, hcode, hshown⟩
    · obtain ⟨c, d, hc, hframe⟩ := hwhole
      exact ⟨c, d, hc, (congrArg latchedFrame (cycleOp_out_of_not_raisesLatch hraise)).trans hframe⟩

/-- The select line of the code alone is high while its frame is shown. -/
theorem rowLines_of_frame {out : Chain} {c : Code} {d : Digit} (h : latchedFrame out = frame48 c d) {k : Nat}
    (hk : k < 40) : (rowLines out).getLsbD k = decide (k = c.toNat) := by
  rw [rowLines_getLsbD out hk, ← latchedFrame_getLsbD out (by omega), h, frame48_getLsbD c d (by omega), if_pos hk]

/-- Settles O52: the latched frame is the step's (`raisesLatch_shows_frame`), and its lines are read off bit by bit. -/
theorem latchShowsTheStepsFrame : Obligations.LatchShowsTheStepsFrame := by
  intro s inp hscan hphase hact hrst
  have hframe := raisesLatch_shows_frame hscan ⟨hrst, hphase⟩
  refine ⟨_, step_cycle_eq hact, hframe, fun k hk => ?row, fun j hj => ?digit⟩
  case row =>
    rw [rowLines_of_frame (out := (endCycle inp (cycleOp inp s)).out) hframe hk, decide_eq_true_iff]
  case digit =>
    rw [digNLines, show latchedFrame (endCycle inp (cycleOp inp s)).out = _ from hframe, frame48_digitByte,
      digsel_getLsbD _ hj, decide_eq_false_iff_not, not_not]

end Sys2Proof.Machine
end

section
/-! PROOFS. Whole steps: the big step in closed form, what it shows, and runs of it (spec 42, 43, 44, 45, 70). -/

namespace Sys2Proof.Machine

/-! ## One whole step -/

/-- The accumulator after a sample at the level `b` (rule R120). -/
def sampledAcc (b : Level) (s : State) : Byte :=
  if b then s.btnAcc
  else match s.btnMode with
    | .count => s.btnAcc + 1
    | .bitmask => s.btnAcc ||| (1#8 <<< s.activeDigit.toNat)

theorem sampleButton_registers (b : Level) (s : State) :
    sampleButton b s = { s with trace := s.trace ++ [.btn b], btnAcc := sampledAcc b s } := sampleButton_eq b s

/-- The wrap condition as the spec writes it. -/
theorem ite_wraps {α : Type} (d : Digit) (x y : α) : (if wraps d then x else y) = if d = 7 then x else y := by
  simp only [wraps_iff]

/-- `ADVANCE` and the sample write the button registers and the digit; the rest is as the frame leaves it. -/
theorem scanOnce_registers (c : Code) (b : Level) {s : State} (hlow : PinsLow s) :
    scanOnce c b s =
      { s with
        tickPend := false
        tickInt := if 49 < s.tickInt + 1 then 0 else s.tickInt + 1
        tickPub := if 49 < s.tickInt + 1 then s.tickPub + 1 else s.tickPub
        codeQ := clampCode c
        shreg := 0, byteIdx := 5, bitIdx := 7, phase := .idle
        srData := decide (s.activeDigit ≠ 7), srClk := false, srLatch := false
        sh := (frame48 (clampCode c) s.activeDigit).reverse
        out := (frame48 (clampCode c) s.activeDigit).reverse
        activeDigit := if s.activeDigit = 7 then 0 else s.activeDigit + 1
        pattern := if s.activeDigit = 7 then sampledAcc b s else s.pattern
        btnAcc := if s.activeDigit = 7 then 0 else sampledAcc b s
        trace := s.trace ++ scanTrace (clampCode c) s.activeDigit b } := by
  obtain ⟨hclk, hlatch⟩ := hlow
  rw [scanOnce_of_low c b hclk hlatch, advanceDigit_eq, sampleButton_registers]
  simp only [ite_wraps, scanTrace, List.append_assoc, List.cons_append, List.nil_append]
  rfl

/-- Settles O53: `scanOnce_registers`, with the accumulator as the sample leaves it. -/
theorem scanStepInClosedForm : Obligations.ScanStepInClosedForm := by
  intro c b s hclk hlatch
  refine ⟨sampledAcc b s, rfl, ?_⟩
  rw [exec_scanStep, scanOnce_registers c b ⟨hclk, hlatch⟩, clampCode_eq]

/-- While its frame is shown the ROM selects the mask of the code (rules R71, R72). -/
theorem segLines_of_frame {s : State} {c : Code} {d : Digit} (hc : c.toNat < 40)
    (h : latchedFrame s.out = frame48 c d) : s.segLines = fontMask c := by
  have hrow : rowLines s.out = BitVec.twoPow 40 c.toNat := by
    refine (rowLines_eq_twoPow_iff s.out hc).mpr fun j hj => ?_
    rw [← rowLines_getLsbD s.out hj, rowLines_of_frame h hj, decide_eq_true_iff]
  rw [segLines_of_oneHot (k := ⟨c.toNat, hc⟩) (by rw [hrow, oneHotRow_twoPow ⟨c.toNat, hc⟩]), fontMask_of_legal hc]

/-- Settles O54: the latched frame enables its digit alone (`enabledDigits_reverse_frame48`) and selects its code's mask
(`segLines_of_frame`). -/
theorem displayShowsTheCharacter : Obligations.DisplayShowsTheCharacter := by
  intro c b s hclk hlatch
  have hout := scanOnce_out c b (s := s) ⟨hclk, hlatch⟩
  refine ⟨scanOnce c b s, exec_scanStep c b s, fun j => ?_⟩
  rw [← clampCode_eq, State.shown, hout, enabledDigits_reverse_frame48 _ _ j.isLt,
    segLines_of_frame (clampCode_lt c) (by rw [hout, latchedFrame_reverse])]
  simp only [decide_eq_true_eq, BitVec.toNat_inj]

/-! ## The counters and the buttons over a run of steps -/

theorem scanOnce_tickInt (c : Code) (b : Level) {s : State} (hlow : PinsLow s) :
    (scanOnce c b s).tickInt = if 49 < s.tickInt + 1 then 0 else s.tickInt + 1 := by
  rw [scanOnce_registers c b hlow]

theorem scanOnce_tickPub (c : Code) (b : Level) {s : State} (hlow : PinsLow s) :
    (scanOnce c b s).tickPub = if 49 < s.tickInt + 1 then s.tickPub + 1 else s.tickPub := by
  rw [scanOnce_registers c b hlow]

theorem scanOnce_pattern (c : Code) (b : Level) {s : State} (hlow : PinsLow s) :
    (scanOnce c b s).pattern = if s.activeDigit = 7 then sampledAcc b s else s.pattern := by
  rw [scanOnce_registers c b hlow]

theorem scanOnce_btnAcc (c : Code) (b : Level) {s : State} (hlow : PinsLow s) :
    (scanOnce c b s).btnAcc = if s.activeDigit = 7 then 0 else sampledAcc b s := by
  rw [scanOnce_registers c b hlow]

theorem scanOnce_btnMode (c : Code) (b : Level) {s : State} (hlow : PinsLow s) :
    (scanOnce c b s).btnMode = s.btnMode := by
  rw [scanOnce_registers c b hlow]

theorem scanLines_btnMode (lines : List (Code × Level)) {s : State} (hlow : PinsLow s) :
    (scanLines lines s).btnMode = s.btnMode := by
  induction lines generalizing s with
  | nil => rfl
  | cons line rest ih =>
    exact (ih (scanOnce_pinsLow line.1 line.2 hlow)).trans (scanOnce_btnMode line.1 line.2 hlow)

/-- The tick counter counts the steps to the base 50 (rules R130, R131). -/
theorem scanLines_reset_ticks (lines : List (Code × Level)) :
    (scanLines lines State.reset).tickInt.toNat = lines.length % 50 ∧
      (scanLines lines State.reset).tickPub.toNat = lines.length / 50 % 256 := by
  induction lines using List.reverseRecOn with
  | nil => exact ⟨rfl, rfl⟩
  | append_singleton lines line ih =>
    obtain ⟨c, b⟩ := line
    obtain ⟨hint, hpub⟩ := ih
    have hlow := scanLines_pinsLow lines pinsLow_reset
    rw [scanLines_concat, scanOnce_tickInt c b hlow, scanOnce_tickPub c b hlow, List.length_append,
      List.length_singleton]
    have hnext : ((scanLines lines State.reset).tickInt + 1).toNat = lines.length % 50 + 1 := by bv_omega
    have hover : 49 < (scanLines lines State.reset).tickInt + 1 ↔ lines.length % 50 = 49 := by bv_omega
    by_cases h49 : lines.length % 50 = 49
    · rw [if_pos (hover.mpr h49), if_pos (hover.mpr h49)]
      refine ⟨?_, ?_⟩
      · show 0 = (lines.length + 1) % 50
        omega
      · rw [BitVec.toNat_add, hpub]
        show (lines.length / 50 % 256 + 1) % 256 = (lines.length + 1) / 50 % 256
        omega
    · rw [if_neg (mt hover.mp h49), if_neg (mt hover.mp h49)]
      omega

/-! ## The published count (mode COUNT, rules R121, R123) -/

/-- The pressed samples of a stimulus. -/
def pressCount (lines : List (Code × Level)) : Nat := lines.countP (fun l => l.2 == false)

theorem pressCount_le_length (lines : List (Code × Level)) : pressCount lines ≤ lines.length := List.countP_le_length

theorem pressCount_concat (lines : List (Code × Level)) (c : Code) (b : Level) :
    pressCount (lines ++ [(c, b)]) = pressCount lines + (if b then 0 else 1) := by
  cases b <;> simp [pressCount]

theorem sampledAcc_of_count {s : State} (hmode : s.btnMode = .count) (b : Level) (hroom : s.btnAcc.toNat < 255) :
    (sampledAcc b s).toNat = s.btnAcc.toNat + (if b then 0 else 1) := by
  rw [sampledAcc, hmode]
  cases b
  · simp only [Bool.false_eq_true, if_false]
    bv_omega
  · rfl

/-- The accumulator holds the presses of the scan cycle that runs, the pattern those of the last whole one. -/
theorem scanLines_reset_buttons (lines : List (Code × Level)) :
    (scanLines lines State.reset).btnAcc.toNat = pressCount (lines.drop (8 * (lines.length / 8))) ∧
      (scanLines lines State.reset).pattern.toNat =
        if lines.length < 8 then 0 else pressCount ((lines.drop (8 * (lines.length / 8) - 8)).take 8) := by
  induction lines using List.reverseRecOn with
  | nil => exact ⟨rfl, rfl⟩
  | append_singleton lines line ih =>
    obtain ⟨c, b⟩ := line
    obtain ⟨hacc, hpattern⟩ := ih
    have hlow := scanLines_pinsLow lines pinsLow_reset
    have hmode : (scanLines lines State.reset).btnMode = .count := scanLines_btnMode lines pinsLow_reset
    have hdigit : (scanLines lines State.reset).activeDigit.toNat = lines.length % 8 := by
      rw [scanLines_reset_activeDigit, BitVec.toNat_ofNat]
    have hfew := pressCount_le_length (lines.drop (8 * (lines.length / 8)))
    rw [List.length_drop] at hfew
    have hsample := sampledAcc_of_count hmode b (by omega)
    rw [hacc, ← pressCount_concat _ c, ← List.drop_append_of_le_length (by omega)] at hsample
    rw [scanLines_concat, scanOnce_btnAcc c b hlow, scanOnce_pattern c b hlow, List.length_append,
      List.length_singleton]
    by_cases hlast : lines.length % 8 = 7
    · have hwrap : (scanLines lines State.reset).activeDigit = 7 := by bv_omega
      have hcycle : 8 * ((lines.length + 1) / 8) = lines.length + 1 := by omega
      have hfull : 8 * ((lines.length + 1) / 8) - 8 = 8 * (lines.length / 8) := by omega
      rw [if_pos hwrap, if_pos hwrap, if_neg (by omega), hfull, hcycle, hsample]
      refine ⟨?empty, ?published⟩
      case empty => simp [pressCount]
      case published =>
        rw [List.take_of_length_le]
        rw [List.length_drop, List.length_append, List.length_singleton]
        omega
    · have hinner : (scanLines lines State.reset).activeDigit ≠ 7 := by bv_omega
      have hcycle : (lines.length + 1) / 8 = lines.length / 8 := by omega
      rw [if_neg hinner, if_neg hinner, hcycle, hsample, hpattern]
      refine ⟨rfl, ?kept⟩
      case kept =>
        by_cases hfirst : lines.length < 8
        · rw [if_pos hfirst, if_pos (by omega)]
        · rw [if_neg hfirst, if_neg (by omega), List.drop_append_of_le_length (by omega),
            List.take_append_of_le_length (by rw [List.length_drop]; omega)]

/-- Settles O56: the digit, the two tick counters and the buttons after a run from reset, each by induction over the
stimulus. -/
theorem countersAfterSteps : Obligations.CountersAfterSteps := by
  intro lines
  obtain ⟨hint, hpub⟩ := scanLines_reset_ticks lines
  obtain ⟨-, hpattern⟩ := scanLines_reset_buttons lines
  refine ⟨_, runLines_eq _ _, ?digit, hint, hpub, hpattern⟩
  case digit => rw [scanLines_reset_activeDigit, BitVec.toNat_ofNat]

/-! ## The published bits (mode BITMASK, rules R122, R123) -/

/-- Whether line `j` of a stimulus is a pressed sample. -/
def pressedAt (lines : List (Code × Level)) (j : Nat) : Bool := decide (lines[j]?.map Prod.snd = some false)

theorem pressedAt_concat (lines : List (Code × Level)) (c : Code) (b : Level) (j : Nat) :
    pressedAt (lines ++ [(c, b)]) j = (pressedAt lines j || (!b && decide (j = lines.length))) := by
  simp only [pressedAt, List.getElem?_append]
  rcases Nat.lt_trichotomy j lines.length with hlt | rfl | hgt
  · simp [hlt, Nat.ne_of_lt hlt]
  · cases b <;> simp
  · rw [if_neg (by omega), List.getElem?_eq_none (by rw [List.length_singleton]; omega),
      List.getElem?_eq_none (by omega)]
    simp [Nat.ne_of_gt hgt]

theorem sampledAcc_of_bitmask {s : State} (hmode : s.btnMode = .bitmask) (b : Level) {j : Nat} (hj : j < 8) :
    (sampledAcc b s).getLsbD j = (s.btnAcc.getLsbD j || (!b && decide (j = s.activeDigit.toNat))) := by
  rw [sampledAcc, hmode]
  cases b
  · simp only [Bool.false_eq_true, if_false, getLsbD_or_digitBit _ _ hj, Bool.not_false, Bool.true_and]
  · simp

section
variable {s : State} (hmode : s.btnMode = .bitmask) (hlow : PinsLow s) (hdigit : s.activeDigit = 0)
  (hacc : s.btnAcc = 0)
include hmode hlow hdigit

omit hmode in
theorem scanLines_digit_toNat (lines : List (Code × Level)) (hlen : lines.length < 8) :
    (scanLines lines s).activeDigit.toNat = lines.length := by
  rw [scanLines_activeDigit lines hlow, hdigit, BitVec.ofNat_eq_ofNat, BitVec.zero_add, BitVec.toNat_ofNat]
  exact Nat.mod_eq_of_lt hlen

/-- The sample of one step more, at the bit of its own digit. -/
theorem sampledAcc_scanLines (lines : List (Code × Level)) (hlen : lines.length < 8)
    (hbits : ∀ j < 8, (scanLines lines s).btnAcc.getLsbD j = pressedAt lines j) (c : Code) (b : Level) {j : Nat}
    (hj : j < 8) : (sampledAcc b (scanLines lines s)).getLsbD j = pressedAt (lines ++ [(c, b)]) j := by
  rw [sampledAcc_of_bitmask ((scanLines_btnMode lines hlow).trans hmode) b hj, hbits j hj,
    scanLines_digit_toNat hlow hdigit lines hlen, pressedAt_concat]

include hacc

/-- Within a scan cycle the accumulator holds one bit for each step so far, and the pattern stays. -/
theorem scanLines_bitmask (lines : List (Code × Level)) (hlen : lines.length < 8) :
    (scanLines lines s).pattern = s.pattern ∧
      ∀ j < 8, (scanLines lines s).btnAcc.getLsbD j = pressedAt lines j := by
  induction lines using List.reverseRecOn with
  | nil => exact ⟨rfl, fun j _ => by simp [hacc, pressedAt]⟩
  | append_singleton lines line ih =>
    obtain ⟨c, b⟩ := line
    rw [List.length_append, List.length_singleton] at hlen
    obtain ⟨hpattern, hbits⟩ := ih (by omega)
    have hlow' := scanLines_pinsLow lines hlow
    have hcount := scanLines_digit_toNat hlow hdigit lines (by omega)
    have hinner : (scanLines lines s).activeDigit ≠ 7 := by bv_omega
    rw [scanLines_concat, scanOnce_pattern c b hlow', scanOnce_btnAcc c b hlow', if_neg hinner, if_neg hinner]
    exact ⟨hpattern, fun j hj => sampledAcc_scanLines hmode hlow hdigit lines (by omega) hbits c b hj⟩

end

/-- Settles O60: seven steps set their bits (`scanLines_bitmask`), and the eighth publishes them with its own. -/
theorem bitmaskCyclePublishesItsSamples : Obligations.BitmaskCyclePublishesItsSamples := by
  intro s lines hmode hclk hlatch hdigit hacc hlen
  have hlow : PinsLow s := ⟨hclk, hlatch⟩
  refine ⟨fun d hd => ?shown, ?published⟩
  case shown =>
    have hprefix : (lines.take d).length = d := by rw [List.length_take]; omega
    have hsplit : lines.take (d + 1) = lines.take d ++ [lines[d]] := by simp
    have hcount := scanLines_digit_toNat hlow hdigit (lines.take d) (by omega)
    refine ⟨_, runLines_eq _ _, fun j hj => ?digit, fun hinner => ?pattern⟩
    case digit =>
      rw [hsplit, scanLines_concat, scanOnce_out _ _ (scanLines_pinsLow _ hlow), enabledDigits_reverse_frame48 _ _ hj,
        hcount, hprefix, decide_eq_true_iff]
    case pattern =>
      exact (scanLines_bitmask hmode hlow hdigit hacc _ (by rw [List.length_take]; omega)).1
  case published =>
    obtain ⟨first, ⟨c, b⟩, rfl⟩ : ∃ first last, lines = first ++ [last] :=
      ⟨_, _, (List.dropLast_append_getLast (List.ne_nil_of_length_eq_add_one hlen)).symm⟩
    rw [List.length_append, List.length_singleton] at hlen
    have hcount := scanLines_digit_toNat hlow hdigit first (by omega)
    have hlow' := scanLines_pinsLow first hlow
    have hlast : (scanLines first s).activeDigit = 7 := by bv_omega
    obtain ⟨-, hbits⟩ := scanLines_bitmask hmode hlow hdigit hacc first (by omega)
    refine ⟨_, runLines_eq _ _, ?_, ?_, fun d hd => ?_⟩
    · rw [scanLines_concat, scanOnce_activeDigit c b hlow', hlast]; rfl
    · rw [scanLines_concat, scanOnce_btnAcc c b hlow', if_pos hlast]
    · rw [scanLines_concat, scanOnce_pattern c b hlow', if_pos hlast,
        sampledAcc_scanLines hmode hlow hdigit first (by omega) hbits c b hd, pressedAt, decide_eq_true_iff]

end Sys2Proof.Machine
end

section
/-! PROOFS. The cycles of one step, from its accept to its end: how many are left, what each emits, and what they keep
(spec 42 section 2, spec 60 section 5). -/

namespace Sys2Proof.Machine

/-! ## A run of cycles -/

/-- The state after a cycle for each of the given input levels; `runSteps_of_script` ties it to the model's run. -/
def runCycles (ins : List Inputs) (s : State) : State := ins.foldl (fun u inp => endCycle inp (cycleOp inp u)) s

@[simp] theorem runCycles_nil (s : State) : runCycles [] s = s := rfl

@[simp] theorem runCycles_cons (inp : Inputs) (ins : List Inputs) (s : State) :
    runCycles (inp :: ins) s = runCycles ins (endCycle inp (cycleOp inp s)) := rfl

theorem runCycles_concat (ins : List Inputs) (inp : Inputs) (s : State) :
    runCycles (ins ++ [inp]) s = endCycle inp (cycleOp inp (runCycles ins s)) := by
  simp [runCycles]

theorem runCycles_take_succ {ins : List Inputs} {n : Nat} (hn : n < ins.length) (s : State) :
    runCycles (ins.take (n + 1)) s = endCycle ins[n] (cycleOp ins[n] (runCycles (ins.take n) s)) := by
  rw [← List.take_append_getElem hn, runCycles_concat]

@[simp] theorem endCycle_cycleOp_script (inp : Inputs) (s : State) :
    (endCycle inp (cycleOp inp s)).script = s.script.tail :=
  congrArg List.tail (cycleOp_sameEnvironment inp s).script

@[simp] theorem endCycle_cycleOp_cycle (inp : Inputs) (s : State) :
    (endCycle inp (cycleOp inp s)).cycle = s.cycle + 1 :=
  congrArg (· + 1) (cycleOp_sameEnvironment inp s).cycle

theorem runCycles_cycle (ins : List Inputs) (s : State) : (runCycles ins s).cycle = s.cycle + ins.length := by
  induction ins generalizing s with
  | nil => rfl
  | cons inp ins ih => rw [runCycles_cons, ih, endCycle_cycleOp_cycle, List.length_cons, Nat.add_right_comm]; rfl

/-- The model runs through the cycles that stand first in the script, and no further. -/
theorem runSteps_of_script (ins : List Inputs) (rest : List Act) {s : State}
    (hscript : s.script = ins.map .cycle ++ rest) :
    runSteps ins.length s = .next (runCycles ins s) ∧ (runCycles ins s).script = rest := by
  induction ins generalizing s with
  | nil => exact ⟨rfl, hscript⟩
  | cons inp ins ih =>
    have hact : s.nextAct = .cycle inp := nextAct_cons (rest := ins.map .cycle ++ rest) (by rw [hscript]; rfl)
    rw [List.length_cons, runSteps, step_cycle_eq hact, runCycles_cons]
    exact ih (by rw [endCycle_cycleOp_script, hscript]; rfl)

theorem runSteps_take {ins : List Inputs} {rest : List Act} {s : State} (hscript : s.script = ins.map .cycle ++ rest)
    {n : Nat} (hn : n ≤ ins.length) : runSteps n s = .next (runCycles (ins.take n) s) := by
  have hsplit : s.script = (ins.take n).map .cycle ++ ((ins.drop n).map .cycle ++ rest) := by
    rw [← List.append_assoc, ← List.map_append, List.take_append_drop, hscript]
  have hrun := (runSteps_of_script (ins.take n) _ hsplit).1
  rwa [List.length_take, Nat.min_eq_left hn] at hrun

/-! ## How many cycles of the step are left (rule R100) -/

/-- The cycles from this one to the end of the step that runs. -/
def cyclesLeft (s : State) : Nat :=
  match s.phase with
  | .idle => 0
  | .load => 33 * (6 - s.byteIdx.toNat) + 7
  | .bitData => 33 * (5 - s.byteIdx.toNat) + 4 * (7 - s.bitIdx.toNat) + 11
  | .bitClkHi => 33 * (5 - s.byteIdx.toNat) + 4 * (7 - s.bitIdx.toNat) + 10
  | .bitHold => 33 * (5 - s.byteIdx.toNat) + 4 * (7 - s.bitIdx.toNat) + 9
  | .bitClkLo => 33 * (5 - s.byteIdx.toNat) + 4 * (7 - s.bitIdx.toNat) + 8
  | .latPre => 7
  | .latHi => 6
  | .latHold => 5
  | .latLo => 4
  | .latPost => 3
  | .sample => 2
  | .advance => 1

theorem cyclesLeft_eq_zero_iff (s : State) : cyclesLeft s = 0 ↔ s.phase = .idle := by
  cases hphase : s.phase <;> simp [cyclesLeft, hphase]

/-- Each cycle without reset takes the step one cycle nearer to its end. -/
theorem cyclesLeft_cycleOp {inp : Inputs} {s : State} (hrst : inp.rst = false) (hbusy : s.phase ≠ .idle)
    (hbyte : s.byteIdx.toNat ≤ 5) : cyclesLeft (cycleOp inp s) + 1 = cyclesLeft s := by
  have hbit := s.bitIdx.isLt
  cases hphase : s.phase with
  | idle => exact absurd hphase hbusy
  | load =>
    rw [cycleOp_load hrst hphase]
    simp only [cyclesLeft, hphase, loadByte, BitVec.ofNat_eq_ofNat, BitVec.toNat_ofNat]
    omega
  | bitClkHi => rw [cycleOp_bitClkHi hrst hphase, raiseClk_eq]; simp [cyclesLeft, hphase]
  | bitClkLo =>
    rw [cycleOp_bitClkLo hrst hphase]
    obtain ⟨hmore, hsucc, hnext⟩ | ⟨hlast, hmore, hsucc, hnext⟩ | ⟨hlast, hend, hnext⟩ :=
      nextBit_cases (s := lowerClk s) hbyte
    · rw [lowerClk_bitIdx] at hmore hsucc
      simp only [hnext, cyclesLeft, hphase, hsucc, lowerClk_bitIdx, lowerClk_byteIdx]
      omega
    · rw [lowerClk_bitIdx] at hlast
      rw [lowerClk_byteIdx] at hmore hsucc
      simp only [hnext, cyclesLeft, hphase, hlast, hsucc, lowerClk_byteIdx]
      omega
    · rw [lowerClk_bitIdx] at hlast
      rw [lowerClk_byteIdx] at hend
      simp only [hnext, cyclesLeft, hphase, hlast, hend]
      rfl
  | latHi => rw [cycleOp_latHi hrst hphase]; simp [cyclesLeft, hphase]
  | sample => rw [cycleOp_sample hrst hphase]; simp [cyclesLeft, hphase]
  | advance => rw [cycleOp_advance hrst hphase, advanceDigit_eq]; simp [cyclesLeft, hphase]
  | bitData | bitHold | latPre | latHold | latLo | latPost => simp [cycleOp, hrst, cyclesLeft, hphase]

/-! The cycles left name the phase. -/

/-- Cycle `4 + 4 k + k / 8` clocks the bit of stream position `k` in. -/
theorem phase_bitClkHi_of_left {s : State} {k : Nat} (hk : k < 48) (hbyte : s.byteIdx.toNat ≤ 5)
    (hleft : cyclesLeft s + (3 + 4 * k + k / 8) = 206) : s.phase = .bitClkHi ∧ bitsSent s = k := by
  have hbit := s.bitIdx.isLt
  obtain ⟨a, r, hr, rfl⟩ : ∃ a r, r < 8 ∧ k = 8 * a + r := ⟨k / 8, k % 8, by omega, by omega⟩
  rw [show (8 * a + r) / 8 = a by omega] at hleft
  rcases Nat.lt_trichotomy s.byteIdx.toNat a with hi | hi | hi
  all_goals
    cases hphase : s.phase
    all_goals
      simp only [cyclesLeft, bitsSent, hphase, reduceCtorEq, true_and, false_and] at hleft ⊢
      omega

/-- The phases of the landmarks that have one cycle each in a step. -/
theorem phase_of_left (s : State) :
    (cyclesLeft s = 205 → s.phase = .load) ∧ (cyclesLeft s = 204 → s.phase = .bitData) ∧
      (cyclesLeft s = 6 → s.phase = .latHi) ∧ (cyclesLeft s = 2 → s.phase = .sample) ∧
      (cyclesLeft s = 1 → s.phase = .advance) := by
  cases hphase : s.phase <;> simp [cyclesLeft, hphase] <;> omega

/-! ## What a cycle emits (rule R100) -/

/-- The pin events of the cycle. -/
def emitted (inp : Inputs) (s : State) : List Event :=
  match s.phase with
  | .idle | .load | .advance => []
  | .bitData => [.data (s.shreg.getLsbD 0)]
  | .bitClkHi => [.clkUp]
  | .bitHold | .latPre | .latHold | .latPost => [.hold]
  | .bitClkLo => [.clkDown]
  | .latHi => [.latchUp]
  | .latLo => [.latchDown]
  | .sample => [.btn inp.btnN]

theorem cycleOp_trace {inp : Inputs} {s : State} (hrst : inp.rst = false) :
    (cycleOp inp s).trace = s.trace ++ emitted inp s := by
  cases hphase : s.phase with
  | idle =>
    cases hpend : s.tickPend
    · rw [cycleOp_wait hrst hphase hpend]; simp [emitted, hphase]
    · rw [cycleOp_accept hrst hphase hpend, enterStep_eq]; simp [emitted, hphase]
  | bitClkHi => rw [cycleOp_bitClkHi hrst hphase, raiseClk_eq]; simp [emitted, hphase]
  | bitClkLo => rw [cycleOp_bitClkLo hrst hphase, nextBit_eq]; simp [emitted, hphase]
  | latHi => rw [cycleOp_latHi hrst hphase, raiseLatch_eq]; simp [emitted, hphase]
  | sample => rw [cycleOp_sample hrst hphase, sampleButton_eq]; simp [emitted, hphase]
  | advance => rw [cycleOp_advance hrst hphase, advanceDigit_eq]; simp [emitted, hphase]
  | load | bitData | bitHold | latPre | latHold | latLo | latPost =>
    simp [cycleOp, hrst, emitted, hphase, loadByte]

/-- Every rising edge of the clock sends one bit of the frame. -/
theorem bitsSent_cycleOp {inp : Inputs} {s : State} (hrst : inp.rst = false) (hidle : s.phase ≠ .idle)
    (hadvance : s.phase ≠ .advance) (hbyte : s.byteIdx.toNat ≤ 5) :
    bitsSent (cycleOp inp s) = bitsSent s + (emitted inp s).count .clkUp := by
  cases hphase : s.phase with
  | idle => exact absurd hphase hidle
  | advance => exact absurd hphase hadvance
  | bitClkHi => rw [cycleOp_bitClkHi hrst hphase, raiseClk_eq]; simp [bitsSent, emitted, hphase]
  | bitClkLo =>
    rw [cycleOp_bitClkLo hrst hphase]
    obtain ⟨hmore, -, hnext⟩ | ⟨hlast, hmore, -, hnext⟩ | ⟨hlast, hend, hnext⟩ :=
      nextBit_cases (s := lowerClk s) hbyte
    · rw [lowerClk_bitIdx] at hmore
      simp [hnext, bitsSent, emitted, hphase]
      omega
    · rw [lowerClk_bitIdx] at hlast
      rw [lowerClk_byteIdx] at hmore
      simp [hnext, bitsSent, emitted, hphase, hlast]
      omega
    · rw [lowerClk_bitIdx] at hlast
      rw [lowerClk_byteIdx] at hend
      simp [hnext, bitsSent, emitted, hphase, hlast, hend]
  | latHi => rw [cycleOp_latHi hrst hphase]; simp [bitsSent, emitted, hphase]
  | sample => rw [cycleOp_sample hrst hphase]; simp [bitsSent, emitted, hphase]
  | load | bitData | bitHold | latPre | latHold | latLo | latPost =>
    simp [cycleOp, hrst, bitsSent, emitted, hphase, loadByte]

theorem cyclesLeft_of_emits_latchUp {inp : Inputs} {s : State} (h : Event.latchUp ∈ emitted inp s) :
    cyclesLeft s = 6 := by
  cases hphase : s.phase <;> simp_all [emitted, cyclesLeft]

theorem cyclesLeft_of_emits_btn {inp : Inputs} {s : State} {b : Level} (h : Event.btn b ∈ emitted inp s) :
    cyclesLeft s = 2 := by
  cases hphase : s.phase <;> simp_all [emitted, cyclesLeft]

/-- The events of a step so far, after `old`: one rising clock edge for each bit sent; the latch's rise once five cycles
are left, the read of the button once one is. -/
def StepEvents (old : List Event) (s : State) : Prop :=
  ∃ es, s.trace = old ++ es ∧ es.count .clkUp = bitsSent s ∧ (Event.latchUp ∈ es → cyclesLeft s ≤ 5) ∧
    ∀ b, Event.btn b ∈ es → cyclesLeft s ≤ 1

theorem StepEvents.cycleOp {old : List Event} {inp : Inputs} {s : State} (h : StepEvents old s) (hrst : inp.rst = false)
    (hidle : s.phase ≠ .idle) (hadvance : s.phase ≠ .advance) (hbyte : s.byteIdx.toNat ≤ 5) :
    StepEvents old (cycleOp inp s) := by
  obtain ⟨es, htrace, hclocks, hlatch, hbtn⟩ := h
  have hleft := cyclesLeft_cycleOp hrst hidle hbyte
  refine ⟨es ++ emitted inp s, ?trace, ?clocks, fun hmem => ?latch, fun b hmem => ?btn⟩
  case trace => rw [cycleOp_trace hrst, htrace, List.append_assoc]
  case clocks => rw [List.count_append, hclocks, bitsSent_cycleOp hrst hidle hadvance hbyte]
  case latch =>
    rcases List.mem_append.mp hmem with hold | hnew
    · have := hlatch hold; omega
    · have := cyclesLeft_of_emits_latchUp hnew; omega
  case btn =>
    rcases List.mem_append.mp hmem with hold | hnew
    · have := hbtn b hold; omega
    · have := cyclesLeft_of_emits_btn hnew; omega

/-! ## The state within a step -/

/-- What holds of `v`, `ins.length` cycles after the idle state `s` with a pending tick, until the step's last cycle. -/
structure MidStep (s : State) (ins : List Inputs) (v : State) : Prop where
  left : cyclesLeft v + ins.length = 206
  byteIdx : v.byteIdx.toNat ≤ 5
  activeDigit : v.activeDigit = s.activeDigit
  pattern : v.pattern = s.pattern
  tickInt : v.tickInt = if 49 < s.tickInt + 1 then 0 else s.tickInt + 1
  tickPend : v.tickPend = ins.any Inputs.tick
  events : StepEvents s.trace v

theorem MidStep.busy {s v : State} {ins : List Inputs} (h : MidStep s ins v) (hlen : ins.length ≤ 205) :
    v.phase ≠ .idle := by
  have hleft := h.left
  rw [ne_eq, ← cyclesLeft_eq_zero_iff]
  omega

theorem midStep_accept {s : State} {inp : Inputs} (hphase : s.phase = .idle) (hpend : s.tickPend = true)
    (hrst : inp.rst = false) : MidStep s [inp] (endCycle inp (cycleOp inp s)) := by
  rw [endCycle_of_running hrst, cycleOp_accept hrst hphase hpend, enterStep_registers]
  refine ⟨rfl, Nat.zero_le 5, rfl, rfl, rfl, ?pend, [], ?trace, rfl, nofun, nofun⟩
  case pend => simp
  case trace => simp

theorem MidStep.next {s v : State} {ins : List Inputs} (h : MidStep s ins v) (hlen : ins.length < 205) {inp : Inputs}
    (hrst : inp.rst = false) : MidStep s (ins ++ [inp]) (endCycle inp (cycleOp inp v)) := by
  have hidle := h.busy (by omega)
  have hadvance : v.phase ≠ .advance := by
    intro hphase
    have hleft := h.left
    simp only [cyclesLeft, hphase] at hleft
    omega
  have hleft := cyclesLeft_cycleOp hrst hidle h.byteIdx
  have hsame := cycleOp_sameStepRegisters hrst hidle hadvance
  rw [endCycle_of_running hrst]
  exact {
    left := by
      rw [List.length_append, List.length_singleton, Nat.add_comm ins.length, ← Nat.add_assoc, ← h.left, ← hleft]
      rfl
    byteIdx := cycleOp_byteIdx_le hrst h.byteIdx
    activeDigit := hsame.activeDigit.trans h.activeDigit
    pattern := hsame.pattern.trans h.pattern
    tickInt := hsame.tickInt.trans h.tickInt
    tickPend := by simp [hsame.tickPend, h.tickPend]
    events := h.events.cycleOp hrst hidle hadvance h.byteIdx }

section
variable {s : State} {ins : List Inputs} (hphase : s.phase = .idle) (hpend : s.tickPend = true)
  (hlen : ins.length = 206) (hrst : ∀ x ∈ ins, x.rst = false)
include hphase hpend hlen hrst

/-- From the accept to the last cycle but one the step is under way. -/
theorem midStep_run {n : Nat} (hfirst : 1 ≤ n) (hn : n ≤ 205) : MidStep s (ins.take n) (runCycles (ins.take n) s) := by
  induction n, hfirst using Nat.le_induction with
  | base =>
    rw [runCycles_take_succ (n := 0) (by omega), List.take_succ_eq_append_getElem (by omega)]
    exact midStep_accept hphase hpend (hrst _ (List.getElem_mem _))
  | succ n hfirst ih =>
    rw [runCycles_take_succ (by omega), List.take_succ_eq_append_getElem (by omega)]
    exact (ih (by omega)).next (by rw [List.length_take]; omega) (hrst _ (List.getElem_mem _))

theorem midStep_cyclesLeft {n : Nat} (hfirst : 1 ≤ n) (hn : n ≤ 205) :
    cyclesLeft (runCycles (ins.take n) s) + n = 206 := by
  have hleft := (midStep_run hphase hpend hlen hrst hfirst hn).left
  rwa [List.length_take, Nat.min_eq_left (by omega)] at hleft

omit hphase hpend in
/-- The events after one cycle more. -/
theorem run_trace_succ {n : Nat} (hn : n < 206) :
    (runCycles (ins.take (n + 1)) s).trace =
      (runCycles (ins.take n) s).trace ++ emitted (ins[n]'(hlen ▸ hn)) (runCycles (ins.take n) s) := by
  rw [runCycles_take_succ (hlen ▸ hn)]
  exact cycleOp_trace (hrst _ (List.getElem_mem _))

/-- In the 206th cycle the step ends. -/
theorem run_last_cycle :
    (runCycles (ins.take 205) s).phase = .advance ∧
      runCycles ins s = endCycle (ins[205]'(by omega)) (advanceDigit (runCycles (ins.take 205) s)) := by
  have hleft := midStep_cyclesLeft hphase hpend hlen hrst (n := 205) (by omega) (by omega)
  obtain ⟨-, -, -, -, hadvance⟩ := phase_of_left (runCycles (ins.take 205) s)
  have hlast := hadvance (by omega)
  refine ⟨hlast, ?_⟩
  have hrun := runCycles_take_succ (ins := ins) (n := 205) (by omega) s
  rwa [List.take_of_length_le (by omega), cycleOp_advance (hrst _ (List.getElem_mem _)) hlast] at hrun

end

/-- Settles O58: 205 cycles are within the step (`midStep_run`), and the last one ends it. -/
theorem acceptedStepAlwaysCompletes : Obligations.AcceptedStepAlwaysCompletes := by
  intro s ins rest hphase hpend hscript hlen hrst
  obtain ⟨hrun, hrest⟩ := runSteps_of_script ins rest hscript
  have hmid := midStep_run hphase hpend hlen hrst (n := 205) (by omega) (by omega)
  obtain ⟨-, hlast⟩ := run_last_cycle hphase hpend hlen hrst
  rw [hlen] at hrun
  refine ⟨_, hrun, ?idle, ?pend, ?digit, ?tick, hrest⟩
  case idle => rw [hlast, advanceDigit_eq]; rfl
  case pend =>
    have hsplit : ins.any Inputs.tick = ((ins.take 205).any Inputs.tick || ins[205].tick) := by
      conv_lhs => rw [← List.take_of_length_le (l := ins) (i := 206) (by omega),
        List.take_succ_eq_append_getElem (by omega), List.any_append]
      simp
    rw [hlast, advanceDigit_eq, endCycle_of_running (hrst _ (List.getElem_mem _)), hsplit, ← hmid.tickPend]
  case digit =>
    rw [hlast, ← hmid.activeDigit]
    exact advanceDigit_activeDigit _
  case tick => rw [hlast, ← hmid.tickInt, advanceDigit_eq]; rfl

/-- Settles O59: the cycles left name the phase of each landmark, the phase its one event, and `StepEvents` what came
before. -/
theorem stepKeepsItsTimetable : Obligations.StepKeepsItsTimetable := by
  intro s ins rest hphase hpend hscript hlen hrst
  have hrun := fun n (hn : n ≤ 206) => runSteps_take hscript (hlen ▸ hn)
  have hmid := fun n (h1 : 1 ≤ n) (hn : n ≤ 205) => midStep_run hphase hpend hlen hrst h1 hn
  have hleft := fun n (h1 : 1 ≤ n) (hn : n ≤ 205) => midStep_cyclesLeft hphase hpend hlen hrst h1 hn
  have htrace := fun n (hn : n < 206) => run_trace_succ (s := s) hlen hrst hn
  refine ⟨fun n h1 hn => ?busy, ?first, fun k hk => ?clock, ?latch, ?button, ?last⟩
  case busy =>
    have hn' : (ins.take n).length ≤ 205 := by rw [List.length_take]; omega
    refine ⟨_, hrun n (by omega), ?_, (hmid n h1 hn).activeDigit, (hmid n h1 hn).pattern⟩
    rw [busy_eq, decide_eq_true_iff]
    exact (hmid n h1 hn).busy hn'
  case first =>
    have hleft1 := hleft 1 (by omega) (by omega)
    have hleft2 := hleft 2 (by omega) (by omega)
    obtain ⟨hphases1, -⟩ := phase_of_left (runCycles (ins.take 1) s)
    obtain ⟨-, hphases2, -⟩ := phase_of_left (runCycles (ins.take 2) s)
    have hload := hphases1 (by omega)
    have hdata := hphases2 (by omega)
    have hsilent : (runCycles (ins.take 2) s).trace = s.trace := by
      rw [htrace 1 (by omega), htrace 0 (by omega), List.take_zero, runCycles_nil]
      simp only [emitted, hphase, hload, List.append_nil]
    refine ⟨_, _, (runCycles (ins.take 2) s).shreg.getLsbD 0, hrun 2 (by omega), hsilent, hrun 3 (by omega), ?_⟩
    rw [htrace 2 (by omega), hsilent]
    simp only [emitted, hdata]
  case clock =>
    obtain ⟨hclk, hsent⟩ := phase_bitClkHi_of_left hk (hmid _ (by omega) (by omega)).byteIdx
      (hleft (3 + 4 * k + k / 8) (by omega) (by omega))
    obtain ⟨es, hes, hcount, -, -⟩ := (hmid (3 + 4 * k + k / 8) (by omega) (by omega)).events
    refine ⟨_, _, es, hrun _ (by omega), hes, hrun _ (by omega), ?_, hcount.trans hsent⟩
    rw [show 4 + 4 * k + k / 8 = (3 + 4 * k + k / 8) + 1 by omega, htrace _ (by omega), hes]
    simp only [emitted, hclk]
  case latch =>
    have hleft' := hleft 200 (by omega) (by omega)
    obtain ⟨-, -, hphases, -, -⟩ := phase_of_left (runCycles (ins.take 200) s)
    have hlat := hphases (by omega)
    obtain ⟨es, hes, -, hnone, -⟩ := (hmid 200 (by omega) (by omega)).events
    refine ⟨_, _, es, hrun _ (by omega), hes, hrun _ (by omega), ?_, fun hmem => ?_⟩
    · rw [htrace 200 (by omega), hes]
      simp only [emitted, hlat]
    · have := hnone hmem
      omega
  case button =>
    have hleft' := hleft 204 (by omega) (by omega)
    obtain ⟨-, -, -, hphases, -⟩ := phase_of_left (runCycles (ins.take 204) s)
    have hsample := hphases (by omega)
    obtain ⟨es, hes, -, -, hnone⟩ := (hmid 204 (by omega) (by omega)).events
    refine ⟨_, _, es, ins[204].btnN, hrun _ (by omega), hes, hrun _ (by omega), ?_, ?_, fun b' hmem => ?_⟩
    · rw [htrace 204 (by omega), hes]
      simp only [emitted, hsample]
    · rw [List.getElem?_eq_getElem (by omega)]
      rfl
    · have := hnone b' hmem
      omega
  case last =>
    obtain ⟨hadvance, hend⟩ := run_last_cycle hphase hpend hlen hrst
    refine ⟨_, _, hrun 205 (by omega), hrun 206 (by omega), ?_, ?_⟩
    · rw [htrace 205 (by omega)]
      simp only [emitted, hadvance, List.append_nil]
    · rw [List.take_of_length_le (by omega), hend, busy_eq, advanceDigit_eq]
      rfl

end Sys2Proof.Machine
end

section
/-! PROOFS. The agreement of the two grains (rule R101): from every cycle of a step, what is left of it, done with the
big step's own operations, ends in the same state. -/

namespace Sys2Proof.Machine

/-! ## What is left of a step, with the operations of the big step -/

/-- The state without what only the small step keeps between two cycles: the phase, the script, the cycle count. -/
def parked (s : State) : State := { s with phase := .idle, script := [], cycle := 0 }

/-- The same, with the counters as a step leaves them. -/
def cleared (s : State) : State := parked (endCounters s)

/-- The bytes of the step's frame, in the order they are sent (rule R93). -/
def frameBytes (s : State) : List Byte :=
  [0, 1, 2, 3, 4, 5].map fun i => frameByte i s.codeQ s.activeDigit

/-- `SHIFT_OUT_BYTE` of each byte. -/
def sendBytes (vs : List Byte) (s : State) : State := vs.foldl (fun u v => shiftOut v u) s

/-- The end of a step, from the sample on. -/
def sampleAdvance (b : Level) (s : State) : State := advanceDigit (sampleButton b s)

/-- The state at the end of the step that `s` is within, if the button line has the level `b` in its SAMPLE cycle. -/
def finish (b : Level) (s : State) : State :=
  match s.phase with
  | .idle => parked s
  | .load =>
    sampleAdvance b (pulseLatch (sendBytes ((frameBytes s).drop s.byteIdx.toNat) (cleared s)))
  | .bitData => finishByte (shiftBits (7 - s.bitIdx.toNat) (pulseClock (sendLowBit (cleared s))))
  | .bitClkHi => finishByte (shiftBits (7 - s.bitIdx.toNat) (pulseClock (cleared s)))
  | .bitHold => finishByte (shiftBits (7 - s.bitIdx.toNat) (lowerClk (holdLines (cleared s))))
  | .bitClkLo => finishByte (shiftBits (7 - s.bitIdx.toNat) (lowerClk (cleared s)))
  | .latPre => sampleAdvance b (pulseLatch (parked s))
  | .latHi => sampleAdvance b (holdLines (lowerLatch (holdLines (raiseLatch (parked s)))))
  | .latHold => sampleAdvance b (holdLines (lowerLatch (holdLines (parked s))))
  | .latLo => sampleAdvance b (holdLines (lowerLatch (parked s)))
  | .latPost => sampleAdvance b (holdLines (parked s))
  | .sample => sampleAdvance b (parked s)
  | .advance => advanceDigit (parked s)
where
  /-- From the end of a byte: the bytes after it, the latch, the sample. -/
  finishByte (t : State) : State :=
    sampleAdvance b (pulseLatch (sendBytes ((frameBytes s).drop (s.byteIdx.toNat + 1)) t))

/-! ## The operations of a step do not read what `parked` and `cleared` set aside -/

theorem raiseClk_cleared (s : State) : raiseClk (cleared s) = cleared (raiseClk s) := by
  rw [raiseClk_eq, raiseClk_eq]; rfl

theorem raiseLatch_parked (s : State) : raiseLatch (parked s) = parked (raiseLatch s) := by
  rw [raiseLatch_eq, raiseLatch_eq]; rfl

theorem pulseClock_cleared (s : State) : pulseClock (cleared s) = cleared (pulseClock s) := by
  rw [pulseClock, raiseClk_cleared]; rfl

theorem shiftBits_cleared (n : Nat) (s : State) : shiftBits n (cleared s) = cleared (shiftBits n s) := by
  induction n generalizing s with
  | zero => rfl
  | succ n ih =>
    rw [shiftBits, shiftBits, ← ih, ← pulseClock_cleared]
    rfl

theorem sendBytes_cleared (vs : List Byte) (s : State) : sendBytes vs (cleared s) = cleared (sendBytes vs s) := by
  induction vs generalizing s with
  | nil => rfl
  | cons v vs ih =>
    rw [show sendBytes (v :: vs) (cleared s) = sendBytes vs (shiftBits 8 (cleared { s with shreg := v })) from rfl,
      shiftBits_cleared, ih]
    rfl

theorem pulseLatch_parked (s : State) : pulseLatch (parked s) = parked (pulseLatch s) := by
  rw [pulseLatch, show holdLines (parked s) = parked (holdLines s) from rfl, raiseLatch_parked]; rfl

theorem sampleAdvance_parked (b : Level) (s : State) : sampleAdvance b (parked s) = parked (sampleAdvance b s) := by
  rw [sampleAdvance, sampleAdvance, sampleButton_eq, advanceDigit_eq, sampleButton_eq, advanceDigit_eq]; rfl

/-! ## Each cycle leaves the end of the step as it is -/

theorem finish_environment (b : Level) (s : State) (l : List Act) (n : Nat) :
    finish b { s with script := l, cycle := n } = finish b s := by
  unfold finish
  cases s.phase <;> rfl

theorem frameBytes_drop {s : State} (h : s.byteIdx.toNat ≤ 5) :
    (frameBytes s).drop s.byteIdx.toNat =
      frameByte s.byteIdx s.codeQ s.activeDigit :: (frameBytes s).drop (s.byteIdx.toNat + 1) := by
  have hlen : s.byteIdx.toNat < (frameBytes s).length := Nat.lt_of_le_of_lt h (show 5 < 6 by decide)
  rw [List.drop_eq_getElem_cons hlen]
  obtain ⟨m, hm, hi⟩ : ∃ m ≤ 5, s.byteIdx = BitVec.ofNat 3 m := ⟨s.byteIdx.toNat, h, by simp⟩
  simp only [hi]
  interval_cases m <;> rfl

theorem finish_load {b : Level} {inp : Inputs} {s : State} (hrst : inp.rst = false) (hphase : s.phase = .load)
    (hbyte : s.byteIdx.toNat ≤ 5) : finish b (cycleOp inp s) = finish b s := by
  rw [cycleOp_load hrst hphase]
  simp only [finish, hphase, frameBytes_drop hbyte]
  rfl

theorem finish_bitClkHi {b : Level} {inp : Inputs} {s : State} (hrst : inp.rst = false)
    (hphase : s.phase = .bitClkHi) : finish b (cycleOp inp s) = finish b s := by
  rw [cycleOp_bitClkHi hrst hphase]
  simp only [finish, hphase, pulseClock, raiseClk_cleared]
  rw [raiseClk_eq]
  rfl

theorem finish_bitClkLo {b : Level} {inp : Inputs} {s : State} (hrst : inp.rst = false)
    (hphase : s.phase = .bitClkLo) (hbyte : s.byteIdx.toNat ≤ 5) : finish b (cycleOp inp s) = finish b s := by
  rw [cycleOp_bitClkLo hrst hphase]
  obtain ⟨hmore, hsucc, hnext⟩ | ⟨hlast, -, hsucc, hnext⟩ | ⟨hlast, hend, hnext⟩ :=
    nextBit_cases (s := lowerClk s) hbyte
  · rw [lowerClk_bitIdx] at hmore hsucc
    have hbits : 7 - s.bitIdx.toNat = (7 - (s.bitIdx.toNat + 1)) + 1 := by omega
    simp only [hnext, finish, hphase, lowerClk_bitIdx, hsucc, hbits]
    rfl
  · rw [lowerClk_bitIdx] at hlast
    rw [lowerClk_byteIdx] at hsucc
    simp only [hnext, finish, hphase, lowerClk_byteIdx, hsucc, hlast]
    rfl
  · rw [lowerClk_bitIdx] at hlast
    rw [lowerClk_byteIdx] at hend
    have hcounters : cleared s = parked s := by rw [cleared, endCounters, ← hlast, ← hend]
    simp only [hnext, finish, finish.finishByte, hphase, hlast, hend, hcounters]
    rfl

/-- The commuting step: whatever the phase, one cycle less of the small step is one operation less of the big step. -/
theorem finish_cycleOp {b : Level} {inp : Inputs} {s : State} (hrst : inp.rst = false) (hbusy : s.phase ≠ .idle)
    (hbyte : s.byteIdx.toNat ≤ 5) (hbtn : s.phase = .sample → inp.btnN = b) :
    finish b (cycleOp inp s) = finish b s := by
  cases hphase : s.phase with
  | idle => exact absurd hphase hbusy
  | load => exact finish_load hrst hphase hbyte
  | bitClkHi => exact finish_bitClkHi hrst hphase
  | bitClkLo => exact finish_bitClkLo hrst hphase hbyte
  | latHi =>
    rw [cycleOp_latHi hrst hphase]
    simp only [finish, hphase, raiseLatch_parked]
    rfl
  | sample =>
    rw [cycleOp_sample hrst hphase, hbtn hphase]
    simp only [finish, hphase, sampleAdvance, sampleButton_eq]
    rfl
  | advance =>
    rw [cycleOp_advance hrst hphase]
    simp only [finish, hphase, advanceDigit_eq]
    rfl
  | bitData | bitHold | latPre | latHold | latLo | latPost =>
    simp only [cycleOp, hrst, Bool.false_eq_true, if_false, finish, hphase]
    rfl

/-- At the accept all of the big step is left. -/
theorem finish_enterStep (b : Level) (c : Code) (s : State) :
    finish b (enterStep c s) = parked (scanOnce c b s) := by
  have hentry : cleared (enterStep c s) = cleared (takeCode c (countTick { s with tickPend := false })) := by
    rw [enterStep_eq, countTick_eq]; rfl
  have hbytes : frameBytes (enterStep c s) = frameBytes (takeCode c (countTick { s with tickPend := false })) := by
    rw [enterStep_eq, countTick_eq]; rfl
  have hfinish : finish b (enterStep c s) =
      sampleAdvance b (pulseLatch (sendBytes (frameBytes (enterStep c s)) (cleared (enterStep c s)))) := by
    rw [enterStep_eq]; rfl
  rw [hfinish, hentry, hbytes, sendBytes_cleared, cleared, pulseLatch_parked, sampleAdvance_parked]
  rfl

/-! ## The agreement -/

theorem endCycle_quiet {inp : Inputs} (hrst : inp.rst = false) (htick : inp.tick = false) (s : State) :
    endCycle inp s = { s with script := s.script.tail, cycle := s.cycle + 1 } := by
  rw [endCycle_of_running hrst, htick, Bool.or_false]

/-- An idle state is what is parked of it, with its script and its cycle count. -/
theorem unpark {s t : State} (hs : s.phase = .idle) (ht : t.phase = .idle) (h : parked s = parked t) :
    s = { t with script := s.script, cycle := s.cycle } := by
  have hparked : ∀ u : State, u.phase = .idle → u = { parked u with script := u.script, cycle := u.cycle } := by
    intro u hu
    rw [parked, ← hu]
  rw [hparked s hs, h, parked, ← ht]

section
variable {s : State} {ins : List Inputs} {c : Code} {b : Level} (hphase : s.phase = .idle) (hpend : s.tickPend = true)
  (hlen : ins.length = 206) (hquiet : ∀ x ∈ ins, x.rst = false ∧ x.tick = false)
  (hcode : ins[0]?.map Inputs.charCode = some c) (hbtn : ins[204]?.map Inputs.btnN = some b)
include hphase hpend hlen hquiet hcode hbtn

/-- Along the run of a step its end stays the same: the big step's. -/
theorem finish_run {n : Nat} (hfirst : 1 ≤ n) (hn : n ≤ 206) :
    finish b (runCycles (ins.take n) s) = parked (scanOnce c b s) := by
  have hrst : ∀ x ∈ ins, x.rst = false := fun x hx => (hquiet x hx).1
  have hcycle : ∀ (u : State) (m : Nat) (hm : m < ins.length),
      finish b (endCycle ins[m] (cycleOp ins[m] u)) = finish b (cycleOp ins[m] u) := by
    intro u m hm
    obtain ⟨hr, ht⟩ := hquiet _ (List.getElem_mem hm)
    rw [endCycle_quiet hr ht, finish_environment]
  induction n, hfirst using Nat.le_induction with
  | base =>
    have hc : (ins[0]'(by omega)).charCode = c := by
      rw [List.getElem?_eq_getElem (by omega)] at hcode
      exact Option.some.inj hcode
    rw [runCycles_take_succ (n := 0) (by omega), hcycle, List.take_zero, runCycles_nil,
      cycleOp_accept (hrst _ (List.getElem_mem _)) hphase hpend, hc, finish_enterStep]
  | succ n hfirst ih =>
    have hmid := midStep_run hphase hpend hlen hrst hfirst (by omega)
    have hsample : (runCycles (ins.take n) s).phase = .sample → (ins[n]'(by omega)).btnN = b := by
      intro hp
      have hleft := midStep_cyclesLeft hphase hpend hlen hrst hfirst (by omega)
      simp only [cyclesLeft, hp] at hleft
      obtain rfl : n = 204 := by omega
      rw [List.getElem?_eq_getElem (by omega)] at hbtn
      exact Option.some.inj hbtn
    rw [runCycles_take_succ (by omega), hcycle,
      finish_cycleOp (hrst _ (List.getElem_mem _)) (hmid.busy (by rw [List.length_take]; omega)) hmid.byteIdx hsample]
    exact ih (by omega)

end

/-- Settles O57: at the end of the 206 cycles nothing of the step is left (`finish_run`), so that the state is the big
step's but for what is parked. -/
theorem theTwoGrainsAgree : Obligations.TheTwoGrainsAgree := by
  intro s ins rest c b hphase hpend hscript hlen hquiet hcode hbtn
  obtain ⟨hrun, hrest⟩ := runSteps_of_script ins rest hscript
  have hend := finish_run hphase hpend hlen hquiet hcode hbtn (n := 206) (by omega) (by omega)
  have hidle : (runCycles ins s).phase = .idle := by
    rw [(run_last_cycle hphase hpend hlen fun x hx => (hquiet x hx).1).2, advanceDigit_eq]; rfl
  have hscan : (scanOnce c b s).phase = .idle := by
    rw [scanOnce, advanceDigit_eq]
  rw [List.take_of_length_le (by omega)] at hend
  simp only [finish, hidle] at hend
  refine ⟨scanOnce c b s, exec_scanStep c b s, ?_⟩
  rw [← hlen, hrun, unpark hidle hscan hend, hrest, runCycles_cycle]

end Sys2Proof.Machine
end
